-- ==== Sys2Proof/Word.lean ====
section
/-! DEFINITION. Word.lean: the machine's word and byte (00_scope.md R8, R11: every value is unsigned, of a stated width). -/

namespace Sys2Proof

/-- R8: "word width of P, S, B halves: 32 bits, unsigned". -/
abbrev Word := BitVec 32

/-- A byte of a key, a salt or a digest. -/
abbrev Byte := BitVec 8

end Sys2Proof
end

