-- ==== Sys2Proof/Syntax.lean ====
section
/-! DEFINITION. Syntax.lean: the instructions (00_scope.md R3: the commands and the bus transactions), one constructor per row of
spec/opcode_table.json, and what a platform can issue at the window. -/

namespace Sys2Proof

/-- One constructor per row of the opcode table. The commands have no operand field (30_encoding.md R82). -/
inductive Instr where
  /-- R170: no operation. -/
  | nop
  /-- R102: load the canonical constants into P and S. -/
  | init
  /-- R126: `ExpandKey(state, ZERO16, key)`. -/
  | expand0key
  /-- R127: `ExpandKey(state, salt, key)`. -/
  | expandkey
  /-- R128: `ExpandKey(state, ZERO16, salt)`. -/
  | expand0salt
  /-- R129: `ExpandKey(state, salt, salt)`. -/
  | expandsalt
  /-- R110: encrypt the block (DATA_L, DATA_R) in place. -/
  | encrypt
  /-- R132: `EksBlowfishSetup(COST, SALT, KEY)`. -/
  | setup
  /-- R153: encrypt the magic constant 64 times. -/
  | ecb64
  /-- R154: `CryptCore(COST, KEY, SALT)`. -/
  | crypt
  /-- R171: clear all secret and working material. -/
  | zeroize
  /-- R60, R84: bus read of the byte offset `addr` (bits 1:0 ignored). -/
  | rd (addr : BitVec 14)
  /-- R61, R84: bus write of `wdata` at the byte offset `addr` (bits 1:0 ignored). -/
  | wr (addr : BitVec 14) (wdata : Word)
deriving DecidableEq, Repr

/-- R3: the first eleven rows are commands, the last two bus transactions. -/
def Instr.isCommand : Instr → Bool
  | .nop | .init | .expand0key | .expandkey | .expand0salt | .expandsalt
  | .encrypt | .setup | .ecb64 | .crypt | .zeroize => true
  | .rd _ | .wr _ _ => false

/-- The eleven commands, in the order of R86. -/
def Instr.commands : List Instr :=
  [.nop, .init, .expand0key, .expandkey, .expand0salt, .expandsalt, .encrypt, .setup, .ecb64, .crypt, .zeroize]

/-- R67: the widths, 8 and 16 bits, that the block's port does not have. -/
inductive NarrowSize where
  | byte
  | half
deriving DecidableEq, Repr

/-- R67: the widths a platform can issue; the block's port has only the 32-bit one. -/
inductive AccessSize where
  | narrow (size : NarrowSize)
  | word
deriving DecidableEq, Repr

/-- R14, R62, R84: an access as the platform issues it, at a full platform address. -/
structure PlatformAccess where
  we    : Bool
  size  : AccessSize
  addr  : Nat
  wdata : Word
deriving DecidableEq, Repr

end Sys2Proof
end

