-- ==== Sys2Proof/Decode.lean ====
section
/-! DEFINITION. Decode.lean: the two formats of 30_encoding.md (R80), their decoders, total on every word, and the encoder. -/

namespace Sys2Proof

/-- R80: "There are two formats, both of fixed width". -/
inductive Encoded where
  /-- R81: a command word, written to CMD. -/
  | command (v : Word)
  /-- R84: a bus transaction, packed as the opcode table packs it: bit 46 = we, bits 45:32 = addr, bits 31:0 = wdata (or rdata). -/
  | bus (t : BitVec 47)
deriving DecidableEq, Repr

/-- R88: why a command word encodes no command. -/
inductive DecodeError where
  /-- R81, R88: a 1 in bits 31:10 or 7:4. -/
  | reservedBits
  /-- R85, R88: OP in 0x8 .. 0xF. -/
  | reservedOp
  /-- R81, R88: SX or KS set with an OP other than EXPAND. -/
  | selectOnNonExpand
deriving DecidableEq, Repr

/-- R82: `OP = v[3:0]`. -/
def opField (v : Word) : BitVec 4 := v.extractLsb' 0 4

/-- R82: `SX = v[8]`. -/
def sxField (v : Word) : Bool := v.getLsbD 8

/-- R82: `KS = v[9]`. -/
def ksField (v : Word) : Bool := v.getLsbD 9

/-- R82, R87: a reserved bit is set, in `RSV = v[31:10] || v[7:4]`. -/
def rsvSet (v : Word) : Bool := v.extractLsb' 10 22 != 0 || v.extractLsb' 4 4 != 0

/-- R85, R86: the EXPAND command that SX and KS select. -/
def expandOf : (sx ks : Bool) → Instr
  | false, false => .expand0key
  | true, false => .expandkey
  | false, true => .expand0salt
  | true, true => .expandsalt

/-- R85: the command of an OP other than EXPAND's, with SX = KS = 0. -/
def commandOfOp (op : BitVec 4) : Except DecodeError Instr :=
  match op.toNat with
  | 0 => .ok .nop
  | 1 => .ok .init
  | 3 => .ok .encrypt
  | 4 => .ok .setup
  | 5 => .ok .ecb64
  | 6 => .ok .crypt
  | 7 => .ok .zeroize
  | _ => .error .reservedOp

/-- R87: the command decoder, total on every 32-bit value. -/
def decodeCommand (v : Word) : Except DecodeError Instr :=
  if rsvSet v then .error .reservedBits
  else if opField v = 2 then .ok (expandOf (sxField v) (ksField v))
  else if sxField v || ksField v then .error .selectOnNonExpand
  else commandOfOp (opField v)

/-- R84: the bus decoder, total: "a transaction's kind is given by its `we` signal" (R80). A read carries no data in. -/
def decodeBus (t : BitVec 47) : Instr :=
  if t.getLsbD 46 then .wr (t.extractLsb' 32 14) (t.extractLsb' 0 32)
  else .rd (t.extractLsb' 32 14)

/-- The decoder of both formats. -/
def decode : Encoded → Except DecodeError Instr
  | .command v => decodeCommand v
  | .bus t => .ok (decodeBus t)

/-- R81: a command word put together from its fields. -/
def commandWord (op : BitVec 4) (sx ks : Bool) : Word :=
  (0 : BitVec 22) ++ BitVec.ofBool ks ++ BitVec.ofBool sx ++ (0 : BitVec 4) ++ op

/-- R84: a transaction put together from its signals. -/
def busWord (we : Bool) (addr : BitVec 14) (data : Word) : BitVec 47 :=
  BitVec.ofBool we ++ addr ++ data

/-- R84, R86: the words of an instruction. The rdata bits of a read, which the block drives, are 0. -/
def encode : Instr → Encoded
  | .nop => .command (commandWord 0 false false)
  | .init => .command (commandWord 1 false false)
  | .expand0key => .command (commandWord 2 false false)
  | .expandkey => .command (commandWord 2 true false)
  | .expand0salt => .command (commandWord 2 false true)
  | .expandsalt => .command (commandWord 2 true true)
  | .encrypt => .command (commandWord 3 false false)
  | .setup => .command (commandWord 4 false false)
  | .ecb64 => .command (commandWord 5 false false)
  | .crypt => .command (commandWord 6 false false)
  | .zeroize => .command (commandWord 7 false false)
  | .rd addr => .bus (busWord false addr 0)
  | .wr addr wdata => .bus (busWord true addr wdata)

/-- The opcode table's width of a format, in whole bytes: 32 bits for a command word, 48 for the 47-bit transaction. -/
def Encoded.nbits : Encoded → Nat
  | .command _ => 32
  | .bus _ => 48

/-- The bits of an encoded instruction, numbered as the opcode table numbers them. -/
def Encoded.bits : Encoded → Nat
  | .command v => v.toNat
  | .bus t => t.toNat

/-- The format of a row of the opcode table is told by its width (log 15); a value too wide for it is no instruction. -/
def encodedOfTable (nbits w : Nat) : Option Encoded :=
  if nbits ≤ 32 then
    if w < 2 ^ 32 then some (.command (BitVec.ofNat 32 w)) else none
  else if nbits ≤ 48 then
    if w < 2 ^ 47 then some (.bus (BitVec.ofNat 47 w)) else none
  else none

/-- What the decoder reads from an instruction whose bits, as the opcode table numbers them, are `w`. -/
def decodeTableWord (nbits w : Nat) : Option Instr :=
  match encodedOfTable nbits w with
  | some e => (decode e).toOption
  | none => none

end Sys2Proof
end

