-- ==== Sys2Proof/Config.lean ====
section
/-! DEFINITION. Config.lean: the parameters 00_scope.md R10 leaves open and the free values of the spec. Each is a constant with no body,
so that no proof can see a value of it and every claim holds whatever it is. -/

namespace Sys2Proof.Config

/-- R10, R36: SECRET_READBACK, whether KEY, PWIN and SWIN read back their contents (log 6). -/
opaque secretReadback : Bool

/-- R10, R62: which 16 KiB page of the platform's address space the window occupies (log 7). -/
opaque basePage : Nat

/-- R10, R62: BASE, aligned to 16 KiB. -/
def base : Nat := basePage * 0x4000

/-- R10, R207: IRQ_ROUTE, the platform interrupt input the IRQ output drives (log 11). -/
opaque irqRoute : Nat

/-- R47, R230, R232: the unspecified word that reset input number `draw` leaves at position `k` of the 1042 words of P and S,
in the order of R101. A FREE VALUE (log 2): "a model may hold any value there". It may depend on `held`, the words the block
held before, since "Implementations need not clear the state RAM at reset". That it depends on nothing beyond its three
arguments is the model's DESIGN CHOICE (log 2). -/
opaque residueWord : (draw : Nat) → (held : List Word) → (k : Nat) → Word

end Sys2Proof.Config
end

