-- ==== Sys2Proof/Machine/State.lean ====
section
/-! DEFINITION. Machine/State.lean: the state of 10_state.md R20, as plain data, and its reset value (R47). -/

namespace Sys2Proof.Machine

open Sys2Proof

/-- R40: one BlowfishState, the P-array and the four S-boxes. -/
structure BlowfishState where
  p : Vector Word 18
  s : Vector (Vector Word 256) 4
deriving DecidableEq, Repr

/-- R200: the errors a command can raise. -/
inductive CmdError where
  /-- `COST < 4` or `COST > 31`; raised by SETUP and CRYPT. -/
  | costOutOfRange
  /-- R205: reserved so that a host driver can map the source's taxonomy; no command raises it. -/
  | saltLengthInvalid
  /-- `KEYLEN = 0` or `KEYLEN > 72`; raised by EXPAND0KEY, EXPANDKEY, SETUP and CRYPT. -/
  | keyLengthInvalid
  /-- R202: the word written to CMD encodes no command. -/
  | illegalCommand
  /-- R203: `SV = 0`; raised by the four EXPAND commands, ENCRYPT and ECB64. -/
  | stateNotInitialised
deriving DecidableEq, Repr

/-- R21: the registers of the window. `reserved` stands for every offset R21 does not list (R35). -/
inductive Reg where
  | id | version | ctrl | status | cmd | cost | keylen
  | salt (k : Fin 4)
  | dataL | dataR
  | ct (k : Fin 6)
  | key (k : Fin 18)
  | pwin (i : Fin 18)
  | swin (j : Fin 4) (n : Fin 256)
  | reserved
deriving DecidableEq, Repr

/-- R71, R160, R211: the events that happen to the block, in one total order (log 3). -/
inductive Move where
  /-- A 32-bit transaction arrives at the port, packed as in R84. -/
  | bus (t : BitVec 47)
  /-- The platform issues an 8- or 16-bit access to the window (R67); refused. -/
  | narrowBus (size : NarrowSize) (t : BitVec 47)
  /-- The engine's turn: its completion step happens here if it is enabled (R163). -/
  | engine
  /-- The reset input is asserted and released (R230; log 13). -/
  | reset
deriving DecidableEq, Repr

/-- R20: the block's state, and the model's own three fields at the end. STATUS.BUSY is `pending.isSome` (log 5). -/
structure State where
  /-- R40: P and S. -/
  bf : BlowfishState
  /-- R42: P and S hold a defined schedule. -/
  sv : Bool
  /-- R24: CTRL.IE. -/
  ie : Bool
  /-- R25: STATUS.DONE. -/
  done : Bool
  /-- R25: STATUS.ERR. -/
  err : Bool
  /-- R25: STATUS.BWE. -/
  bwe : Bool
  /-- R25: STATUS.ECODE. -/
  ecode : BitVec 4
  /-- R29: COST. -/
  cost : BitVec 8
  /-- R30: KEYLEN. -/
  keylen : BitVec 8
  /-- R31: SALT. -/
  salt : Vector Word 4
  /-- R32: DATA_L. -/
  dataL : Word
  /-- R32: DATA_R. -/
  dataR : Word
  /-- R33: CT. -/
  ct : Vector Word 6
  /-- R34: KEY. -/
  key : Vector Word 18
  /-- R44: PENDING, present while a command is in progress. -/
  pending : Option Word
  /-- R84: what the block drove on rdata in the latest read. The model's own field (log 4). -/
  rdata : Word
  /-- The events still to come, first first. The model's own field (log 3). -/
  moves : List Move
  /-- How many reset inputs have been served, an argument of the free values of P and S. The model's own field (log 2). -/
  resets : Nat
deriving DecidableEq, Repr

/-- The reasons the machine stops with a fault: none. "The block has no trap" (R212), "The bus has no error response" (R69), and a
command's error is a next state (R201). -/
inductive Fault
deriving DecidableEq, Repr

/-- The reasons a step is refused. -/
inductive Refusal where
  /-- Raised by an arm of `exec` whose instruction has no meaning yet; safe. No arm raises it. -/
  | notModelled (mnemonic : String)
  /-- Raised by `step` for an access narrower than 32 bits, as R67 asks of a model; safe (log 9). -/
  | narrowAccess (size : NarrowSize)
deriving DecidableEq, Repr

/-- P and S with every word 0: the value ZEROIZE writes (R171), and the model's choice after reset (log 1). -/
def BlowfishState.zero : BlowfishState where
  p := Vector.replicate 18 0
  s := Vector.replicate 4 (Vector.replicate 256 0)

/-- R47: the block right after reset, with no event to come. P and S are the model's choice (log 1). -/
def State.reset : State where
  bf := .zero
  sv := false
  ie := false
  done := false
  err := false
  bwe := false
  ecode := 0
  cost := 0
  keylen := 0
  salt := Vector.replicate 4 0
  dataL := 0
  dataR := 0
  ct := Vector.replicate 6 0
  key := Vector.replicate 18 0
  pending := none
  rdata := 0
  moves := []
  resets := 0

end Sys2Proof.Machine
end

