-- ==== Sys2Proof/Machine/Flags.lean ====
section
/-! DEFINITION. Machine/Flags.lean: STATUS, CTRL and IRQ (10_state.md R24, R25; 60_exceptions.md R200, R206). -/

namespace Sys2Proof.Machine

open Sys2Proof

/-- R25, R44: STATUS.BUSY. PENDING is present exactly while BUSY = 1 (log 5). -/
def State.busy (s : State) : Bool := s.pending.isSome

/-- R206: the IRQ output, `CTRL.IE AND STATUS.DONE`. -/
def State.irq (s : State) : Bool := s.ie && s.done

/-- R25: the word a read of STATUS returns,
`zext_32(ECODE) << 8 | SV << 4 | BWE << 3 | ERR << 2 | DONE << 1 | BUSY`. -/
def State.statusWord (s : State) : Word :=
  (s.ecode.setWidth 32 <<< 8) ||| ((BitVec.ofBool s.sv).setWidth 32 <<< 4) ||| ((BitVec.ofBool s.bwe).setWidth 32 <<< 3) |||
    ((BitVec.ofBool s.err).setWidth 32 <<< 2) ||| ((BitVec.ofBool s.done).setWidth 32 <<< 1) ||| (BitVec.ofBool s.busy).setWidth 32

/-- R24: the word a read of CTRL returns. -/
def State.ctrlWord (s : State) : Word := (BitVec.ofBool s.ie).setWidth 32

/-- R24: what a write of CTRL does. -/
def State.writeCtrl (v : Word) (s : State) : State := { s with ie := v.getLsbD 0 }

/-- R25, R75: what a write of STATUS does, each sticky bit cleared by writing 1 to it. -/
def State.clearSticky (v : Word) (s : State) : State :=
  { s with done := s.done && !v.getLsbD 1, err := s.err && !v.getLsbD 2, bwe := s.bwe && !v.getLsbD 3 }

/-- R39: a write dropped because BUSY = 1 changes nothing but BWE. -/
def State.dropWrite (s : State) : State := { s with bwe := true }

/-- R200: the numeric error codes. -/
def CmdError.code : CmdError → BitVec 4
  | .costOutOfRange => 1
  | .saltLengthInvalid => 2
  | .keyLengthInvalid => 3
  | .illegalCommand => 4
  | .stateNotInitialised => 5

end Sys2Proof.Machine
end

