-- ==== Sys2Proof/Machine/Operands.lean ====
section
/-! DEFINITION. Machine/Operands.lean: the operands of transactions (the register map, 10_state.md R21) and of commands
(30_encoding.md R83), and the byte order helpers they use (00_scope.md R13). -/

namespace Sys2Proof.Machine

open Sys2Proof

/-- R60, R66: `off <- addr[13:2] || 0b00`, as a number. -/
def offsetOf (addr : BitVec 14) : Nat := (addr.extractLsb' 2 12).toNat * 4

/-- R21, R35: the register at a byte offset that is a multiple of 4. -/
def regAtOffset (off : Nat) : Reg :=
  if off = 0x000 then .id
  else if off = 0x004 then .version
  else if off = 0x008 then .ctrl
  else if off = 0x00C then .status
  else if off = 0x010 then .cmd
  else if off = 0x014 then .cost
  else if off = 0x018 then .keylen
  else if 0x020 ≤ off ∧ off ≤ 0x02C then .salt (Fin.ofNat 4 ((off - 0x020) / 4))
  else if off = 0x030 then .dataL
  else if off = 0x034 then .dataR
  else if 0x040 ≤ off ∧ off ≤ 0x054 then .ct (Fin.ofNat 6 ((off - 0x040) / 4))
  else if 0x080 ≤ off ∧ off ≤ 0x0C4 then .key (Fin.ofNat 18 ((off - 0x080) / 4))
  else if 0x1000 ≤ off ∧ off ≤ 0x1044 then .pwin (Fin.ofNat 18 ((off - 0x1000) / 4))
  else if 0x2000 ≤ off ∧ off ≤ 0x2FFC then
    .swin (Fin.ofNat 4 ((off - 0x2000) / 4 / 256)) (Fin.ofNat 256 ((off - 0x2000) / 4 % 256))
  else .reserved

/-- R21, R66: the register a transaction addresses. -/
def regAt (addr : BitVec 14) : Reg := regAtOffset (offsetOf addr)

/-- R21: the offset of a named register; `reserved` is given the first reserved offset (R35). -/
def Reg.offset : Reg → BitVec 14
  | .id => 0x000
  | .version => 0x004
  | .ctrl => 0x008
  | .status => 0x00C
  | .cmd => 0x010
  | .cost => 0x014
  | .keylen => 0x018
  | .salt k => BitVec.ofNat 14 (0x020 + 4 * k.val)
  | .dataL => 0x030
  | .dataR => 0x034
  | .ct k => BitVec.ofNat 14 (0x040 + 4 * k.val)
  | .key k => BitVec.ofNat 14 (0x080 + 4 * k.val)
  | .pwin i => BitVec.ofNat 14 (0x1000 + 4 * i.val)
  | .swin j n => BitVec.ofNat 14 (0x2000 + 0x400 * j.val + 4 * n.val)
  | .reserved => 0x01C

/-- R38: the registers whose reads are answered while BUSY. -/
def Reg.answeredWhileBusy : Reg → Bool
  | .id | .version | .ctrl | .status => true
  | .cmd | .cost | .keylen | .salt _ | .dataL | .dataR | .ct _ | .key _ | .pwin _ | .swin _ _ | .reserved => false

/-- R39, R61: the registers whose writes are dropped, with BWE set, while BUSY. -/
def Reg.droppedWhileBusy : Reg → Bool
  | .cmd | .cost | .keylen | .salt _ | .dataL | .dataR | .key _ => true
  | .id | .version | .ctrl | .status | .ct _ | .pwin _ | .swin _ _ | .reserved => false

/-- R13: `be32(b0, b1, b2, b3)`. -/
def be32 (b0 b1 b2 b3 : Byte) : Word := b0 ++ b1 ++ b2 ++ b3

/-- R13: `bytes_be(w)`, the inverse of `be32`. -/
def bytesBE (w : Word) : List Byte :=
  [w.extractLsb' 24 8, w.extractLsb' 16 8, w.extractLsb' 8 8, w.extractLsb' 0 8]

/-- R13: "A sequence of words is turned into bytes by concatenating `bytes_be` of each word in index order." -/
def bytesOf (ws : List Word) : List Byte := ws.flatMap bytesBE

/-- R83: the key of KS = 0, KEY bytes `0 .. KEYLEN-1` (R34). The commands check `1 ≤ KEYLEN ≤ 72` before they use it (log 16). -/
def keyBytes (key : Vector Word 18) (keylen : BitVec 8) : List Byte := (bytesOf key.toList).take keylen.toNat

/-- R83: the key of KS = 1, SALT bytes 0 .. 15 (R31). -/
def saltBytes (salt : Vector Word 4) : List Byte := bytesOf salt.toList

/-- R120: the key byte at stream position `m`, `K[m mod n]`. The default is never reached for a key of 1 to 72 bytes (log 16). -/
def keyByte (k : List Byte) (m : Nat) : Byte := k.getD (m % k.length) 0

/-- R120: `A(i)`, the key stream word folded into `P[i]`. -/
def keyWord (k : List Byte) (i : Nat) : Word :=
  be32 (keyByte k (4 * i)) (keyByte k (4 * i + 1)) (keyByte k (4 * i + 2)) (keyByte k (4 * i + 3))

/-- R31, R122: the salt half that the toggle H selects, bytes 0 .. 7 for H = 0 and bytes 8 .. 15 for H = 1. -/
def saltHalf (salt : Vector Word 4) (h : Bool) : Word × Word :=
  if h then (salt[2], salt[3]) else (salt[0], salt[1])

/-- R121: KEYLEN is legal as the length of a key. -/
def keylenLegal (keylen : BitVec 8) : Bool := decide (1 ≤ keylen.toNat ∧ keylen.toNat ≤ 72)

/-- R131: COST is legal. -/
def costLegal (cost : BitVec 8) : Bool := decide (4 ≤ cost.toNat ∧ cost.toNat ≤ 31)

end Sys2Proof.Machine
end

