-- ==== Sys2Proof/Machine/Ops.lean ====
section
/-! DEFINITION. Machine/Ops.lean: the shared operations: reading and writing a register of the window (20_memory.md R60, R61),
accepting a command (43_control.md R161), ending one, successfully or with an error (R163, R201), and the reset input (R230). -/

namespace Sys2Proof.Machine

open Sys2Proof

/-- R22: the value of ID. -/
def idValue : Word := 0x42464531

/-- R23: the value of VERSION. -/
def versionValue : Word := 0x00010000

/-- R40: `S[j][n]`. -/
def BlowfishState.sAt (b : BlowfishState) (j : Fin 4) (n : Fin 256) : Word := (b.s[j])[n]

/-- R60: the value a read of a register returns, `readback` being SECRET_READBACK. -/
def State.readReg (readback : Bool) (s : State) (r : Reg) : Word :=
  if s.busy && !r.answeredWhileBusy then 0
  else
    match r with
    | .id => idValue
    | .version => versionValue
    | .ctrl => s.ctrlWord
    | .status => s.statusWord
    | .cmd => 0
    | .cost => s.cost.setWidth 32
    | .keylen => s.keylen.setWidth 32
    | .salt k => s.salt[k]
    | .dataL => s.dataL
    | .dataR => s.dataR
    | .ct k => s.ct[k]
    | .key k => if readback then s.key[k] else 0
    | .pwin i => if s.sv && readback then s.bf.p[i] else 0
    | .swin j n => if s.sv && readback then s.bf.sAt j n else 0
    | .reserved => 0

/-- R161: `accept(v)`, the effect of a write of CMD while BUSY = 0. -/
def State.accept (v : Word) (s : State) : State :=
  { s with pending := some v, done := false, err := false, ecode := 0 }

/-- R61: the effect of a write of a register. -/
def State.writeReg (v : Word) (s : State) (r : Reg) : State :=
  if s.busy && r.droppedWhileBusy then s.dropWrite
  else
    match r with
    | .ctrl => s.writeCtrl v
    | .status => s.clearSticky v
    | .cmd => s.accept v
    | .cost => { s with cost := v.setWidth 8 }
    | .keylen => { s with keylen := v.setWidth 8 }
    | .salt k => { s with salt := s.salt.set k v }
    | .dataL => { s with dataL := v }
    | .dataR => { s with dataR := v }
    | .key k => { s with key := s.key.set k v }
    | .id | .version | .ct _ | .pwin _ | .swin _ _ | .reserved => s

/-- R163: the status part of the completion step, for the error code `e` that `execute` returned. -/
def State.completeWith (e : BitVec 4) (s : State) : State :=
  { s with pending := none, ecode := e, err := e != 0, done := true }

/-- R163, R164: a command reached `complete`. -/
def State.complete (s : State) : State := s.completeWith 0

/-- R15, R201: a command reached `raise e`; the state is otherwise as before the command. This is all the block has of taking an
exception (R212). -/
def State.raiseError (e : CmdError) (s : State) : State := s.completeWith e.code

/-- R164: a command's checks come before its first write: the first error found is raised, else the effect is completed. -/
def State.endCommand (s : State) (check : Option CmdError) (effect : State → State) : State :=
  match check with
  | some e => s.raiseError e
  | none => (effect s).complete

/-- R203: the check of the commands that use the current P and S. -/
def State.checkSchedule (s : State) : Option CmdError := if s.sv then none else some .stateNotInitialised

/-- R121: the check of the commands that use KEY as key. -/
def State.checkKeylen (s : State) : Option CmdError := if keylenLegal s.keylen then none else some .keyLengthInvalid

/-- R131: `ValidateSetup()`, COST first. -/
def State.checkSetup (s : State) : Option CmdError := if costLegal s.cost then s.checkKeylen else some .costOutOfRange

/-- R126, R210: the checks of EXPAND0KEY and EXPANDKEY, SV first. -/
def State.checkExpandKey (s : State) : Option CmdError := if s.sv then s.checkKeylen else some .stateNotInitialised

/-- R83: the bytes of the key of KS = 0. -/
def State.keyOperand (s : State) : List Byte := keyBytes s.key s.keylen

/-- R83: the bytes of the key of KS = 1. -/
def State.saltOperand (s : State) : List Byte := saltBytes s.salt

/-- The 1042 words of P and S, in the order of R101. -/
def BlowfishState.words (b : BlowfishState) : List Word := b.p.toList ++ b.s.toList.flatMap (·.toList)

/-- The words the block holds: P and S, every operand and result a command reads or writes, and PENDING. What P and S hold after
a reset input may depend on them (log 2). -/
def State.heldWords (s : State) : List Word :=
  s.bf.words ++ s.key.toList ++ s.salt.toList ++ s.ct.toList
    ++ [s.dataL, s.dataR, s.cost.setWidth 32, s.keylen.setWidth 32] ++ s.pending.toList

/-- R47, R232: the unspecified P and S that reset input number `draw` leaves, where the block held the words `held`. The state RAM
need not be cleared, so P and S may depend on what P and S held, and on what a command the reset abandons (R231) was working
from. DESIGN CHOICE (log 2): they depend on nothing beyond `draw` and `held`, not on how far an abandoned command had got. -/
def residueState (draw : Nat) (held : List Word) : BlowfishState where
  p := Vector.ofFn fun i => Config.residueWord draw held i.val
  s := Vector.ofFn fun j => Vector.ofFn fun n => Config.residueWord draw held (18 + 256 * j.val + n.val)

/-- R230, R231: the reset input: every piece of state at its value of R47, P and S unspecified, a command in progress abandoned. The
events still to come are the environment's and stay. -/
def State.resetInput (s : State) : State :=
  { State.reset with bf := residueState s.resets s.heldWords, moves := s.moves, resets := s.resets + 1 }

end Sys2Proof.Machine
end

