-- ==== Sys2Proof/Machine/Blowfish.lean ====
section
/-! DEFINITION. Machine/Blowfish.lean: the Blowfish primitive, INIT and ENCRYPT (40_blowfish.md). -/

namespace Sys2Proof.Machine

open Sys2Proof

/-- R103, R104: the F-function, additions modulo 2^32. -/
def feistelF (b : BlowfishState) (x : Word) : Word :=
  ((b.sAt 0 (x.extractLsb' 24 8).toFin + b.sAt 1 (x.extractLsb' 16 8).toFin) ^^^ b.sAt 2 (x.extractLsb' 8 8).toFin)
    + b.sAt 3 (x.extractLsb' 0 8).toFin

/-- R105: one Feistel round with subkey `pi`, the exchange of the halves included. -/
def feistelRound (b : BlowfishState) (pi : Word) (x : Word × Word) : Word × Word :=
  let l := x.1 ^^^ pi
  (x.2 ^^^ feistelF b l, l)

/-- R105: the 16 rounds, `for i in 0..15`. -/
def feistelRounds (b : BlowfishState) (x : Word × Word) : Word × Word :=
  Nat.fold 16 (fun i _ x => feistelRound b b.p[i] x) x

/-- R105: `Encipher(L, R)`: 16 rounds, the last exchange undone, and the whitening with P[16] and P[17]. -/
def encipher (b : BlowfishState) (x : Word × Word) : Word × Word :=
  let y := feistelRounds b x
  (y.2 ^^^ b.p[17], y.1 ^^^ b.p[16])

/-- R102: INIT. -/
def execInit (s : State) : Host.Outcome State Fault Refusal :=
  .next (s.endCommand none fun s => { s with bf := piState, sv := true })

/-- R110: ENCRYPT. -/
def execEncrypt (s : State) : Host.Outcome State Fault Refusal :=
  .next (s.endCommand s.checkSchedule fun s =>
    let y := encipher s.bf (s.dataL, s.dataR)
    { s with dataL := y.1, dataR := y.2 })

end Sys2Proof.Machine
end

