-- ==== Sys2Proof/Machine/EksBlowfish.lean ====
section
/-! DEFINITION. Machine/EksBlowfish.lean: the EksBlowfish key schedule, the four EXPAND commands and SETUP (41_eksblowfish.md). -/

namespace Sys2Proof.Machine

open Sys2Proof

/-- R45, R46: the working state of one ExpandKey: P and S as overwritten so far, the block B = (L, R) and the toggle H. -/
structure Work where
  bf : BlowfishState
  b  : Word × Word
  h  : Bool
deriving DecidableEq, Repr

/-- R122 step 1: the key folded into P. -/
def foldKey (k : List Byte) (b : BlowfishState) : BlowfishState :=
  { b with p := Vector.ofFn fun i => b.p[i] ^^^ keyWord k i.val }

/-- R122: `Step()`: XOR the salt half that H selects (nothing when sx = 0), flip H, encipher B. -/
def Work.step (sx : Bool) (salt : Vector Word 4) (w : Work) : Work :=
  let half := saltHalf salt w.h
  let b := if sx then (w.b.1 ^^^ half.1, w.b.2 ^^^ half.2) else w.b
  { w with b := encipher w.bf b, h := !w.h }

/-- R122 step 3: `P[2i] <- L; P[2i+1] <- R`. -/
def Work.storeP (i : Nat) (hi : i < 9) (w : Work) : Work :=
  { w with bf := { w.bf with p := (w.bf.p.set (2 * i) w.b.1).set (2 * i + 1) w.b.2 } }

/-- R122 step 4: `S[j][2i] <- L; S[j][2i+1] <- R`. -/
def Work.storeS (j : Nat) (hj : j < 4) (i : Nat) (hi : i < 128) (w : Work) : Work :=
  { w with bf := { w.bf with s := w.bf.s.set j ((w.bf.s[j].set (2 * i) w.b.1).set (2 * i + 1) w.b.2) } }

/-- R122 step 3: `for i in 0..8`. -/
def Work.replaceP (sx : Bool) (salt : Vector Word 4) (w : Work) : Work :=
  Nat.fold 9 (fun i hi w => (w.step sx salt).storeP i hi) w

/-- R122 step 4: `for j in 0..3: for i in 0..127`, continuing the same B and H. -/
def Work.replaceS (sx : Bool) (salt : Vector Word 4) (w : Work) : Work :=
  Nat.fold 4 (fun j hj w => Nat.fold 128 (fun i hi w => (w.step sx salt).storeS j hj i hi) w) w

/-- R122: `ExpandKey(sx, K, n)` on P and S, with the key bytes `k`. -/
def expandKey (sx : Bool) (salt : Vector Word 4) (k : List Byte) (b : BlowfishState) : BlowfishState :=
  let w : Work := { bf := foldKey k b, b := (0, 0), h := false }
  ((w.replaceP sx salt).replaceS sx salt).bf

/-- R132 step 4: one rekeying, `ExpandKey(state, ZERO16, key)` then `ExpandKey(state, ZERO16, salt)`. -/
def rekey (salt : Vector Word 4) (k : List Byte) (b : BlowfishState) : BlowfishState :=
  expandKey false salt (saltBytes salt) (expandKey false salt k b)

/-- R132 steps 2 to 4: the schedule of EksBlowfishSetup, with exactly `2^cost` rekeyings counted in unbounded naturals (R135). -/
def eksSetup (cost : Nat) (salt : Vector Word 4) (k : List Byte) : BlowfishState :=
  Nat.iterate (rekey salt k) (2 ^ cost) (expandKey true salt k piState)

/-- R126: EXPAND0KEY. -/
def execExpand0key (s : State) : Host.Outcome State Fault Refusal :=
  .next (s.endCommand s.checkExpandKey fun s => { s with bf := expandKey false s.salt s.keyOperand s.bf })

/-- R127: EXPANDKEY. -/
def execExpandkey (s : State) : Host.Outcome State Fault Refusal :=
  .next (s.endCommand s.checkExpandKey fun s => { s with bf := expandKey true s.salt s.keyOperand s.bf })

/-- R128: EXPAND0SALT. -/
def execExpand0salt (s : State) : Host.Outcome State Fault Refusal :=
  .next (s.endCommand s.checkSchedule fun s => { s with bf := expandKey false s.salt s.saltOperand s.bf })

/-- R129: EXPANDSALT. -/
def execExpandsalt (s : State) : Host.Outcome State Fault Refusal :=
  .next (s.endCommand s.checkSchedule fun s => { s with bf := expandKey true s.salt s.saltOperand s.bf })

/-- R132: SETUP. -/
def execSetup (s : State) : Host.Outcome State Fault Refusal :=
  .next (s.endCommand s.checkSetup fun s =>
    { s with bf := eksSetup s.cost.toNat s.salt s.keyOperand, sv := true })

end Sys2Proof.Machine
end

