-- ==== Sys2Proof/Machine/Bcrypt.lean ====
section
/-! DEFINITION. Machine/Bcrypt.lean: the bcrypt digest, ECB64 and CRYPT (42_bcrypt_ecb.md). -/

namespace Sys2Proof.Machine

open Sys2Proof

/-- R150: the six words MAGICW[0..5] of `OrpheanBeholderScryDoubt`. -/
def magicWords : Vector Word 6 :=
  #v[0x4F727068, 0x65616E42, 0x65686F6C, 0x64657253, 0x63727944, 0x6F756274]

/-- R151: one ECB pass, each of the three blocks enciphered into its own position. -/
def ecbPass (b : BlowfishState) (ct : Vector Word 6) : Vector Word 6 :=
  let x := encipher b (ct[0], ct[1])
  let y := encipher b (ct[2], ct[3])
  let z := encipher b (ct[4], ct[5])
  #v[x.1, x.2, y.1, y.2, z.1, z.2]

/-- R151: `ECB64core()`, 64 passes over the magic constant. -/
def ecb64core (b : BlowfishState) : Vector Word 6 := Nat.iterate (ecbPass b) 64 magicWords

/-- R153: ECB64. -/
def execEcb64 (s : State) : Host.Outcome State Fault Refusal :=
  .next (s.endCommand s.checkSchedule fun s => { s with ct := ecb64core s.bf })

/-- R154: CRYPT. -/
def execCrypt (s : State) : Host.Outcome State Fault Refusal :=
  .next (s.endCommand s.checkSetup fun s =>
    let b := eksSetup s.cost.toNat s.salt s.keyOperand
    { s with bf := b, sv := true, ct := ecb64core b })

end Sys2Proof.Machine
end

