-- ==== Sys2Proof/Machine/Bus.lean ====
section
/-! DEFINITION. Machine/Bus.lean: the bus transactions RD and WR (20_memory.md). -/

namespace Sys2Proof.Machine

open Sys2Proof

/-- R60: RD. The value is driven on rdata; no state of the block changes (R68). -/
def execRd (addr : BitVec 14) (s : State) : Host.Outcome State Fault Refusal :=
  .next { s with rdata := s.readReg Config.secretReadback (regAt addr) }

/-- R61: WR. -/
def execWr (addr : BitVec 14) (wdata : Word) (s : State) : Host.Outcome State Fault Refusal :=
  .next (s.writeReg wdata (regAt addr))

end Sys2Proof.Machine
end

