-- ==== Sys2Proof/Machine/Control.lean ====
section
/-! DEFINITION. Machine/Control.lean: NOP and ZEROIZE (43_control.md), and the completion of an illegal word (60_exceptions.md). -/

namespace Sys2Proof.Machine

open Sys2Proof

/-- R170: NOP. -/
def execNop (s : State) : Host.Outcome State Fault Refusal := .next (s.endCommand none fun s => s)

/-- R171: ZEROIZE. -/
def execZeroize (s : State) : Host.Outcome State Fault Refusal :=
  .next (s.endCommand none fun s =>
    { s with
      bf := .zero
      sv := false
      cost := 0
      keylen := 0
      salt := Vector.replicate 4 0
      dataL := 0
      dataR := 0
      ct := Vector.replicate 6 0
      key := Vector.replicate 18 0 })

/-- R164, R202: the completion step of a word that encodes no command. -/
def completeIllegal (s : State) : Host.Outcome State Fault Refusal := .next (s.raiseError .illegalCommand)

end Sys2Proof.Machine
end

