-- ==== Sys2Proof/Machine/Dispatch.lean ====
section
/-! DEFINITION. Machine/Dispatch.lean: the meaning of each instruction. A command's meaning is its completion step (43_control.md R163). -/

namespace Sys2Proof.Machine

open Sys2Proof

def exec (i : Instr) (s : State) : Host.Outcome State Fault Refusal :=
  match i with
  | .nop => Sys2Proof.Machine.execNop s
  | .init => Sys2Proof.Machine.execInit s
  | .expand0key => Sys2Proof.Machine.execExpand0key s
  | .expandkey => Sys2Proof.Machine.execExpandkey s
  | .expand0salt => Sys2Proof.Machine.execExpand0salt s
  | .expandsalt => Sys2Proof.Machine.execExpandsalt s
  | .encrypt => Sys2Proof.Machine.execEncrypt s
  | .setup => Sys2Proof.Machine.execSetup s
  | .ecb64 => Sys2Proof.Machine.execEcb64 s
  | .crypt => Sys2Proof.Machine.execCrypt s
  | .zeroize => Sys2Proof.Machine.execZeroize s
  | .rd addr => Sys2Proof.Machine.execRd addr s
  | .wr addr wdata => Sys2Proof.Machine.execWr addr wdata s

end Sys2Proof.Machine
end

