-- ==== Sys2Proof/Machine/Engine.lean ====
section
/-! DEFINITION. Machine/Engine.lean: how one event is served (20_memory.md R71; 43_control.md R160, R163, R164). -/

namespace Sys2Proof.Machine

open Sys2Proof

/-- R163, R164: the engine's completion step. It is enabled exactly when STATUS.BUSY = 1; where it is not, the engine's turn passes
(log 3). -/
def engineStep (s : State) : Host.Outcome State Fault Refusal :=
  match s.pending with
  | none => .next s
  | some v =>
    match decodeCommand v with
    | .ok i => exec i s
    | .error _ => completeIllegal s

/-- R60, R61, R84: the block serves one transaction. -/
def busStep (t : BitVec 47) (s : State) : Host.Outcome State Fault Refusal := exec (decodeBus t) s

/-- R71: one event, in a state from whose `moves` it has been taken. -/
def serveMove (m : Move) (s : State) : Host.Outcome State Fault Refusal :=
  match m with
  | .bus t => busStep t s
  | .narrowBus size _ => .refused (.narrowAccess size)
  | .engine => engineStep s
  | .reset => .next s.resetInput

/-- R71: the next event. With no event to come, a command in progress completes, since its delay is finite (R243), and an idle block
keeps its state (R220). -/
def advance (s : State) : Host.Outcome State Fault Refusal :=
  match s.moves with
  | [] => engineStep s
  | m :: ms => serveMove m { s with moves := ms }

/-- `s` with one instruction made the very next thing to happen (log 15): a command is in progress, accepted as by R161, and the engine
has the next turn, or a transaction is the next to arrive at the port. -/
def State.withEncoded (s : State) : Encoded → State
  | .command v => { s.accept v with moves := .engine :: s.moves }
  | .bus t => { s with moves := .bus t :: s.moves }

/-- The format of a row of the opcode table told by its width, the bits above the row's being dropped (log 15). -/
def encodedOfBits (nbits w : Nat) : Encoded :=
  if nbits ≤ 32 then .command (BitVec.ofNat 32 w) else .bus (BitVec.ofNat 47 w)

end Sys2Proof.Machine
end

