-- ==== Sys2Proof/Machine/Step.lean ====
section
/-! DEFINITION. Machine/Step.lean: one step of the machine, and the placing of the instruction it runs next. -/

namespace Sys2Proof.Machine

open Sys2Proof

/-- One step: the next event of the total order of 20_memory.md R71. -/
def step (s : State) : Host.Outcome State Fault Refusal := advance s

/-- The instruction whose bits are `w`, numbered as the opcode table numbers them, made the very next thing to happen (log 15). -/
def State.withFetchWord (s : State) (nbits w : Nat) : State := s.withEncoded (encodedOfBits nbits w)

end Sys2Proof.Machine
end

