-- ==== Sys2Proof/WellFormed.lean ====
section
/-! DEFINITION. WellFormed.lean: which terms can be issued to the block. -/

namespace Sys2Proof

/-- The widths of R84 are in the types of the operands and a command has no operand (R82), so every term of `Instr` is well formed:
"Bus transactions are never illegal" (R89). -/
def Instr.wellFormed : Instr → Bool
  | .nop | .init | .expand0key | .expandkey | .expand0salt | .expandsalt
  | .encrypt | .setup | .ecb64 | .crypt | .zeroize | .rd _ | .wr _ _ => true

/-- R62, R70: the access lies in the 16 KiB window at `base`. -/
def PlatformAccess.inWindow (base : Nat) (a : PlatformAccess) : Bool :=
  decide (base ≤ a.addr ∧ a.addr < base + 0x4000)

/-- R67: "Every transaction moves exactly 32 bits." -/
def PlatformAccess.isWord (a : PlatformAccess) : Bool := a.size == .word

/-- R62, R67: the access is one the spec gives a meaning, a 32-bit one in the window. -/
def PlatformAccess.wellFormedAt (base : Nat) (a : PlatformAccess) : Bool := a.inWindow base && a.isWord

/-- `wellFormedAt` at the platform's BASE. -/
def PlatformAccess.wellFormed (a : PlatformAccess) : Bool := a.wellFormedAt Config.base

end Sys2Proof
end

