-- ==== Sys2Proof/Machine/Platform.lean ====
section
/-! DEFINITION. Machine/Platform.lean: the platform around the block: its address decode and its interrupt inputs
(20_memory.md R62, R67, R70; 60_exceptions.md R206, R207). -/

namespace Sys2Proof.Machine

open Sys2Proof

/-- R84: what arrives at the port for a platform access, the address being "bits 13:0 of the platform address minus BASE". -/
def portWord (base : Nat) (a : PlatformAccess) : BitVec 47 :=
  busWord a.we (BitVec.ofNat 14 (a.addr - base)) a.wdata

/-- R62, R67, R70: the event a platform access is for the block whose window is at `base`. "Everything outside the window is the
platform's": such an access is no event of the block. -/
def moveAt (base : Nat) (a : PlatformAccess) : Option Move :=
  if a.inWindow base then
    some
      (match a.size with
       | .word => .bus (portWord base a)
       | .narrow z => .narrowBus z (portWord base a))
  else none

/-- `moveAt` at the platform's BASE. -/
def platformMove (a : PlatformAccess) : Option Move := moveAt Config.base a

/-- R207: the level on platform interrupt input `n`, as far as this block drives it. -/
def State.irqInput (s : State) (n : Nat) : Bool := n == Config.irqRoute && s.irq

end Sys2Proof.Machine
end

