-- ==== Sys2Proof/Safety.lean ====
section
/-! DEFINITION. Safety.lean: what a safe run is, in the terms the statements use. -/

namespace Sys2Proof.Machine

open Sys2Proof

/-- R43: P and S hold "either the canonical constants or the result of applying a finite sequence of ExpandKey operations to them".
Each ExpandKey is one a command can make: its salt is SALT or nothing, its key has 1 to 72 bytes (R121). -/
inductive BlowfishState.Scheduled : BlowfishState → Prop where
  | constants : Scheduled piState
  | expand (sx : Bool) (salt : Vector Word 4) (k : List Byte) (b : BlowfishState)
      (short : 1 ≤ k.length) (long : k.length ≤ 72) : Scheduled b → Scheduled (expandKey sx salt k b)

/-- R43: whenever SV = 1, P and S hold a schedule. -/
def State.ScheduleInv (s : State) : Prop := s.sv = true → s.bf.Scheduled

/-- R26, R200: the invariants of STATUS: BUSY = 1 implies DONE = 0, ERR = 0 and ECODE = 0; ERR = 1 implies ECODE ≠ 0; and ECODE is never
one of the reserved codes 2 and 6 to 15. -/
def State.StatusInv (s : State) : Prop :=
  (s.busy = true → s.done = false ∧ s.err = false ∧ s.ecode = 0) ∧
  (s.err = true → s.ecode ≠ 0) ∧
  (s.ecode = 0 ∨ s.ecode = 1 ∨ s.ecode = 3 ∨ s.ecode = 4 ∨ s.ecode = 5)

/-- Both invariants of the machine. -/
def State.Inv (s : State) : Prop := s.StatusInv ∧ s.ScheduleInv

/-- R67: no access narrower than 32 bits is to come, so no step is refused. -/
def State.wordAccessesOnly (s : State) : Bool :=
  s.moves.all fun m =>
    match m with
    | .narrowBus _ _ => false
    | .bus _ | .engine | .reset => true

/-- R42, R48: two states that a host cannot tell apart: equal, or equal in all but P and S while SV = 0. -/
def State.SameToHost (s t : State) : Prop := s = t ∨ (s.sv = false ∧ t = { s with bf := t.bf })

end Sys2Proof.Machine
end

