-- ==== Sys2Proof/Certificates/Slice0/Obligations.lean ====
section
/-! DEFINITION. Certificates/Slice0/Obligations.lean: the statements, and under `Sys2Proof.Reference` what they compare the model with,
written from the spec's own tables, pseudocode and bit positions and not from the model's operations. -/

namespace Sys2Proof.Reference

open Sys2Proof Sys2Proof.Machine

/-- R86: the complete set of legal command words. -/
def legalWords : List (Word × Instr) :=
  [(0x00000000, .nop), (0x00000001, .init), (0x00000002, .expand0key), (0x00000102, .expandkey), (0x00000202, .expand0salt),
   (0x00000302, .expandsalt), (0x00000003, .encrypt), (0x00000004, .setup), (0x00000005, .ecb64), (0x00000006, .crypt),
   (0x00000007, .zeroize)]

/-- R88: the three ways in which a command word is illegal. -/
def Illegal (v : Word) : Prop :=
  (v.extractLsb' 10 22 ≠ 0 ∨ v.extractLsb' 4 4 ≠ 0) ∨
  8 ≤ (v.extractLsb' 0 4).toNat ∨
  ((v.extractLsb' 0 4).toNat ≠ 2 ∧ (v.getLsbD 8 = true ∨ v.getLsbD 9 = true))

/-- R20, R161, R163: a command completed without error. -/
def succeeded (s : State) : State := { s with pending := none, done := true, err := false, ecode := 0 }

/-- R201: a command ended with error code `e`; nothing but STATUS changes. -/
def failed (e : BitVec 4) (s : State) : State := { s with pending := none, done := true, err := true, ecode := e }

/-- R200, R210: the words whose command needs SV = 1. -/
def needsSchedule (v : Word) : Bool :=
  v == 0x002 || v == 0x102 || v == 0x202 || v == 0x302 || v == 0x003 || v == 0x005

/-- R210: the words whose command reads COST. -/
def readsCost (v : Word) : Bool := v == 0x004 || v == 0x006

/-- R210: the words whose command uses KEY as key. -/
def usesKey (v : Word) : Bool := v == 0x002 || v == 0x102 || v == 0x004 || v == 0x006

/-- R210: the first error, in the rule's order, that applies to the command word `v`. -/
def errorCode (v : Word) (s : State) : BitVec 4 :=
  if legalWords.all (fun p => p.1 != v) then 4
  else if needsSchedule v && !s.sv then 5
  else if readsCost v && (s.cost.toNat < 4 || 31 < s.cost.toNat) then 1
  else if usesKey v && (s.keylen.toNat < 1 || 72 < s.keylen.toNat) then 3
  else 0

/-- The value of a bit. -/
def bit (b : Bool) : Nat := if b then 1 else 0

/-- R60: `off <- addr[13:2] || 0b00`. -/
def off (addr : BitVec 14) : Nat := addr.toNat / 4 * 4

/-- R21, R35: the offset is one that R21 names. -/
def Named (o : Nat) : Prop :=
  o ≤ 0x018 ∨ (0x020 ≤ o ∧ o ≤ 0x034) ∨ (0x040 ≤ o ∧ o ≤ 0x054) ∨ (0x080 ≤ o ∧ o ≤ 0x0C4) ∨
  (0x1000 ≤ o ∧ o ≤ 0x1044) ∨ (0x2000 ≤ o ∧ o ≤ 0x2FFC)

/-- R60: the pseudocode of RD, at the offset `o`. -/
def rdAt (readback : Bool) (o : Nat) (s : State) : Word :=
  if o = 0x000 then 0x42464531
  else if o = 0x004 then 0x00010000
  else if o = 0x008 then BitVec.ofNat 32 (bit s.ie)
  else if o = 0x00C then
    BitVec.ofNat 32 (s.ecode.toNat * 256 + bit s.sv * 16 + bit s.bwe * 8 + bit s.err * 4 + bit s.done * 2 + bit s.pending.isSome)
  else if s.pending.isSome then 0
  else if o = 0x010 then 0
  else if o = 0x014 then BitVec.ofNat 32 s.cost.toNat
  else if o = 0x018 then BitVec.ofNat 32 s.keylen.toNat
  else if h : 0x020 ≤ o ∧ o ≤ 0x02C then s.salt[(o - 0x020) / 4]'(by omega)
  else if o = 0x030 then s.dataL
  else if o = 0x034 then s.dataR
  else if h : 0x040 ≤ o ∧ o ≤ 0x054 then s.ct[(o - 0x040) / 4]'(by omega)
  else if h : 0x080 ≤ o ∧ o ≤ 0x0C4 then (if readback then s.key[(o - 0x080) / 4]'(by omega) else 0)
  else if h : 0x1000 ≤ o ∧ o ≤ 0x1044 then (if s.sv && readback then s.bf.p[(o - 0x1000) / 4]'(by omega) else 0)
  else if h : 0x2000 ≤ o ∧ o ≤ 0x2FFC then
    (if s.sv && readback then (s.bf.s[(o - 0x2000) / 4 / 256]'(by omega))[(o - 0x2000) / 4 % 256]'(by omega) else 0)
  else 0

/-- R60: the pseudocode of RD. -/
def rdValue (readback : Bool) (addr : BitVec 14) (s : State) : Word := rdAt readback (off addr) s

/-- R61: the pseudocode of WR, at the offset `o`. -/
def wrAt (o : Nat) (v : Word) (s : State) : State :=
  if o = 0x008 then { s with ie := v.getLsbD 0 }
  else if o = 0x00C then
    { s with
      done := if v.getLsbD 1 then false else s.done
      err := if v.getLsbD 2 then false else s.err
      bwe := if v.getLsbD 3 then false else s.bwe }
  else if o = 0x010 ∨ o = 0x014 ∨ o = 0x018 ∨ (0x020 ≤ o ∧ o ≤ 0x034) ∨ (0x080 ≤ o ∧ o ≤ 0x0C4) then
    if s.pending.isSome then { s with bwe := true }
    else if o = 0x010 then { s with pending := some v, done := false, err := false, ecode := 0 }
    else if o = 0x014 then { s with cost := BitVec.ofNat 8 v.toNat }
    else if o = 0x018 then { s with keylen := BitVec.ofNat 8 v.toNat }
    else if h : 0x020 ≤ o ∧ o ≤ 0x02C then { s with salt := s.salt.set ((o - 0x020) / 4) v (by omega) }
    else if o = 0x030 then { s with dataL := v }
    else if o = 0x034 then { s with dataR := v }
    else if h : 0x080 ≤ o ∧ o ≤ 0x0C4 then { s with key := s.key.set ((o - 0x080) / 4) v (by omega) }
    else s
  else s

/-- R61: the pseudocode of WR. -/
def wrState (addr : BitVec 14) (v : Word) (s : State) : State := wrAt (off addr) v s

/-- R34: key byte `m`, `KEY[m div 4][31 - 8 (m mod 4) : 24 - 8 (m mod 4)]`. -/
def keyByteAt (key : Vector Word 18) (m : Fin 72) : Byte :=
  BitVec.ofNat 8 ((key[m.val / 4]'(by omega)).toNat / 2 ^ (24 - 8 * (m.val % 4)))

/-- R31: salt byte `m`. -/
def saltByteAt (salt : Vector Word 4) (m : Fin 16) : Byte :=
  BitVec.ofNat 8 ((salt[m.val / 4]'(by omega)).toNat / 2 ^ (24 - 8 * (m.val % 4)))

/-- R34: two KEY registers hold the same first `n` key bytes. -/
def SameKeyBytes (n : Nat) (key key' : Vector Word 18) : Prop :=
  ∀ m : Fin 72, m.val < n → keyByteAt key m = keyByteAt key' m

/-- R123: the 1042 words of P and S in the order P[0], ..., P[17], S[0][0], ..., S[3][255]. -/
def wordAt (b : BlowfishState) (n : Nat) : Word :=
  if h : n < 18 then b.p[n]
  else if h : n < 1042 then (b.s[(n - 18) / 256]'(by omega))[(n - 18) % 256]'(by omega)
  else 0

/-- The state after one command's completion step. -/
def after (i : Instr) (s : State) : State :=
  match exec i s with
  | .next t => t
  | .fault _ => s
  | .refused _ => s

/-- `n` steps. -/
def run : Nat → State → Host.Outcome State Fault Refusal
  | 0, s => .next s
  | n + 1, s =>
    match step s with
    | .next t => run n t
    | .fault e => .fault e
    | .refused e => .refused e

/-- R27: the transaction is a write of CMD while BUSY = 0, which accepts a command. -/
def Accepts (w : BitVec 47) (s : State) : Prop := ∃ addr v, decodeBus w = .wr addr v ∧ off addr = 0x010 ∧ s.pending = none

/-- R25: the transaction is a write of STATUS with bit 2 set. -/
def ClearsErr (w : BitVec 47) : Prop := ∃ addr v, decodeBus w = .wr addr v ∧ off addr = 0x00C ∧ v.getLsbD 2 = true

/-- Every event is a transaction at the port. -/
def OnlyBus (ms : List Move) : Prop := ∀ m ∈ ms, ∃ t, m = .bus t

end Sys2Proof.Reference

open Sys2Proof Sys2Proof.Machine

/-! ## Encoding (30_encoding.md) -/

/-- A sanity statement: words of R86 and R84, written out, decode to the instructions they stand for. -/
def Obligations.WrittenOutWordsDecode : Prop :=
  decodeCommand 0x00000000 = .ok .nop ∧ decodeCommand 0x00000102 = .ok .expandkey ∧
  decodeCommand 0x00000202 = .ok .expand0salt ∧ decodeCommand 0x00000005 = .ok .ecb64 ∧
  decodeTableWord 32 0x00000006 = some .crypt ∧ decodeTableWord 48 0x000C00000000 = some (.rd 0x00C) ∧
  decodeTableWord 48 0x40140000000C = some (.wr 0x014 0x0000000C)

/-- R86: exactly the eleven words of the table decode, each to its command; "every other 32-bit value is illegal". -/
def Obligations.LegalCommandWordsAreExactlyTheTable : Prop :=
  ∀ (v : Word) (i : Instr), decodeCommand v = .ok i ↔ (v, i) ∈ Reference.legalWords

/-- R88, R202: which words are illegal; that one written to CMD while BUSY = 0 is accepted like any other; and that its completion
step changes nothing but STATUS, where it reports code 4. -/
def Obligations.IllegalWordsCompleteWithCode4 : Prop :=
  (∀ v : Word, (∃ e, decodeCommand v = .error e) ↔ Reference.Illegal v) ∧
  (∀ (v : Word) (addr : BitVec 14) (s : State), Reference.Illegal v → s.pending = none → Reference.off addr = 0x010 →
    exec (.wr addr v) s = .next { s with pending := some v, done := false, err := false, ecode := 0 }) ∧
  (∀ (v : Word) (s : State) (ms : List Move), Reference.Illegal v → s.pending = some v → s.moves = .engine :: ms →
    step s = .next (Reference.failed 4 { s with moves := ms }))

/-- Decode and encode agree on every instruction, with every operand at every value; what stands in the rdata bits of a read, which
the block drives, is not read. -/
def Obligations.DecodeOfEncodeIsTheInstruction : Prop :=
  (∀ i : Instr, i.wellFormed = true →
    decode (encode i) = .ok i ∧ decodeTableWord (encode i).nbits (encode i).bits = some i) ∧
  (∀ (addr : BitVec 14) (rdata : Word), decodeBus (busWord false addr rdata) = .rd addr)

/-- R84: the fields of a packed transaction by their bit positions: bit 46 is we, bits 45:32 addr, bits 31:0 wdata. -/
def Obligations.BusFieldsByPosition : Prop :=
  ∀ t : BitVec 47,
    decodeBus t =
      if t.toNat / 2 ^ 46 = 1 then .wr (BitVec.ofNat 14 (t.toNat / 2 ^ 32)) (BitVec.ofNat 32 t.toNat)
      else .rd (BitVec.ofNat 14 (t.toNat / 2 ^ 32))

/-! ## The step (20_memory.md R71; 43_control.md) -/

/-- A step runs the decoded instruction: a transaction that arrives is served by `exec` of what it decodes to, and the engine's turn runs
`exec` of what PENDING decodes to, in the state from which the event has been taken. The last two clauses are about the placing of an
instruction, which is the model's choice (log 15). -/
def Obligations.StepRunsTheDecodedInstruction : Prop :=
  (∀ (s : State) (t : BitVec 47) (ms : List Move), s.moves = .bus t :: ms →
    step s = exec (decodeBus t) { s with moves := ms }) ∧
  (∀ (s : State) (v : Word) (i : Instr) (ms : List Move), s.moves = .engine :: ms → s.pending = some v →
    decodeCommand v = .ok i → step s = exec i { s with moves := ms }) ∧
  (∀ (s : State) (i : Instr), i.wellFormed = true → i.isCommand = true →
    ∃ v, encode i = .command v ∧
      step (s.withFetchWord 32 v.toNat) =
        exec i { s with pending := some v, done := false, err := false, ecode := 0 }) ∧
  (∀ (s : State) (i : Instr), i.wellFormed = true → i.isCommand = false →
    ∃ t, encode i = .bus t ∧ step (s.withFetchWord 48 t.toNat) = exec i s)

/-- R161: acceptance latches the whole word, whatever it is, sets BUSY, clears DONE, ERR and ECODE, and changes nothing else; the IRQ
output falls. -/
def Obligations.AcceptanceLatchesTheWord : Prop :=
  ∀ (v : Word) (addr : BitVec 14) (s : State), Reference.off addr = 0x010 → s.pending = none →
    ∃ t, exec (.wr addr v) s = .next t ∧
      t = { s with pending := some v, done := false, err := false, ecode := 0 } ∧ t.busy = true ∧ t.irq = false

/-- R163: while BUSY = 1 the engine's turn is the completion step: it runs the pending command as R164 says, PENDING is consumed, DONE
is set and ERR says whether ECODE is not 0. -/
def Obligations.CompletionStepEndsTheCommand : Prop :=
  ∀ (s : State) (v : Word) (ms : List Move), s.pending = some v → s.moves = .engine :: ms →
    ∃ t, step s = .next t ∧ t.pending = none ∧ t.busy = false ∧ t.done = true ∧ (t.err = true ↔ t.ecode ≠ 0) ∧ t.moves = ms ∧
      (∀ i, decodeCommand v = .ok i → exec i { s with moves := ms } = .next t) ∧
      (∀ e, decodeCommand v = .error e → t = Reference.failed 4 { s with moves := ms })

/-- The model's choice of log 3, for which R243 asks that "every accepted command completes": with no event to come the engine has the
turn, so a command in progress still completes and the machine then stays as it is; and an engine's turn while BUSY = 0, when no
completion step is enabled, passes. -/
def Obligations.PendingCommandCompletesWithNoEvent : Prop :=
  (∀ (s : State) (v : Word), s.pending = some v → s.moves = [] →
    ∃ t, step s = .next t ∧ t.pending = none ∧ t.done = true ∧ step t = .next t) ∧
  (∀ s : State, s.moves = [] → step s = step { s with moves := [.engine] }) ∧
  (∀ (s : State) (ms : List Move), s.pending = none → s.moves = .engine :: ms → step s = .next { s with moves := ms })

/-- R210, R200: the code a completion step reports is the first that applies, in the order IllegalCommand, StateNotInitialised,
CostOutOfRange, KeyLengthInvalid. -/
def Obligations.FirstApplicableErrorIsReported : Prop :=
  ∀ (s : State) (v : Word) (ms : List Move), s.pending = some v → s.moves = .engine :: ms →
    ∃ t, step s = .next t ∧ t.ecode = Reference.errorCode v s

/-- R201: a command that reports an error changes nothing but STATUS (PENDING is consumed). Under the transactions that follow, ECODE
returns to 0 when a command is accepted and keeps its value under every other; ERR becomes 0 when a command is accepted or the host
writes 1 to STATUS bit 2, and keeps its value under every other. -/
def Obligations.FailedCommandChangesOnlyStatus : Prop :=
  (∀ (s t : State) (v : Word) (ms : List Move), s.pending = some v → s.moves = .engine :: ms → step s = .next t → t.ecode ≠ 0 →
    t = Reference.failed t.ecode { s with moves := ms }) ∧
  (∀ (s t : State) (w : BitVec 47) (ms : List Move), s.moves = .bus w :: ms → step s = .next t →
    (Reference.Accepts w s → t.ecode = 0 ∧ t.err = false) ∧
    (¬ Reference.Accepts w s → t.ecode = s.ecode) ∧
    (Reference.ClearsErr w → t.err = false) ∧
    (¬ Reference.Accepts w s → ¬ Reference.ClearsErr w → t.err = s.err))

/-- What each command writes, and what it leaves: the table of 43_control.md section 3 that the spec marks as its own inference
("lists what each successful command writes", "A failed command writes only STATUS"). -/
def Obligations.CommandsWriteOnlyTheirRow : Prop :=
  ∀ (i : Instr) (s t : State), i.isCommand = true → exec i s = .next t →
    (t.ie = s.ie ∧ t.bwe = s.bwe ∧ t.rdata = s.rdata ∧ t.moves = s.moves ∧ t.resets = s.resets) ∧
    (t.ecode ≠ 0 → t = Reference.failed t.ecode s) ∧
    (i ∈ [.nop, .encrypt, .ecb64] → t.bf = s.bf) ∧
    (i ≠ .zeroize → t.cost = s.cost ∧ t.keylen = s.keylen ∧ t.salt = s.salt ∧ t.key = s.key) ∧
    (i ∉ [.encrypt, .zeroize] → t.dataL = s.dataL ∧ t.dataR = s.dataR) ∧
    (i ∉ [.ecb64, .crypt, .zeroize] → t.ct = s.ct) ∧
    (i = .nop → t.sv = s.sv ∧ t.ecode = 0) ∧
    (i = .zeroize → t.sv = false ∧ t.ecode = 0) ∧
    (i = .init → t.sv = true ∧ t.ecode = 0) ∧
    (i ∉ [.nop, .zeroize] → t.ecode = 0 → t.sv = true)

/-- R42: INIT, SETUP and CRYPT set SV when they complete successfully, ZEROIZE and reset clear it, no other event changes it; while
SV = 0 the commands that read P and S first raise StateNotInitialised and PWIN and SWIN read 0. -/
def Obligations.SvChangesOnlyAsStated : Prop :=
  (∀ s t : State, step s = .next t → s.sv = false → t.sv = true →
    (s.moves = [] ∨ ∃ ms, s.moves = .engine :: ms) ∧ t.ecode = 0 ∧
      (s.pending = some 0x001 ∨ s.pending = some 0x004 ∨ s.pending = some 0x006)) ∧
  (∀ s t : State, step s = .next t → s.sv = true → t.sv = false →
    (∃ ms, s.moves = .reset :: ms) ∨
      ((s.moves = [] ∨ ∃ ms, s.moves = .engine :: ms) ∧ s.pending = some 0x007)) ∧
  (∀ (i : Instr) (s t : State), i ∈ [.init, .setup, .crypt] → exec i s = .next t → t.ecode = 0 → t.sv = true) ∧
  (∀ s t : State, exec .zeroize s = .next t → t.sv = false) ∧
  (∀ s : State, s.resetInput.sv = false) ∧
  (∀ (i : Instr) (s : State), i ∈ [.expand0key, .expandkey, .expand0salt, .expandsalt, .encrypt, .ecb64] → s.sv = false →
    exec i s = .next (Reference.failed 5 s)) ∧
  (∀ (rb : Bool) (s : State), s.sv = false →
    (∀ i, s.readReg rb (.pwin i) = 0) ∧ (∀ j n, s.readReg rb (.swin j n) = 0))

/-- R206: the IRQ output is IE AND DONE; it rises at a completion step when IE = 1 and when the host sets IE while DONE = 1; it falls
when the host clears DONE, when it clears IE, at acceptance and at reset; BWE and ERR do not raise it. -/
def Obligations.IrqIsIeAndDone : Prop :=
  (∀ s : State, s.irq = true ↔ s.ie = true ∧ s.done = true) ∧
  (∀ (s : State) (v : Word) (ms : List Move), s.pending = some v → s.moves = .engine :: ms → s.ie = true →
    ∃ t, step s = .next t ∧ t.irq = true) ∧
  (∀ (s : State) (v : Word), s.done = true → v.getLsbD 0 = true → ∃ t, exec (.wr 0x008 v) s = .next t ∧ t.irq = true) ∧
  (∀ (s : State) (v : Word), v.getLsbD 1 = true → ∃ t, exec (.wr 0x00C v) s = .next t ∧ t.irq = false) ∧
  (∀ (s : State) (v : Word), v.getLsbD 0 = false → ∃ t, exec (.wr 0x008 v) s = .next t ∧ t.irq = false) ∧
  (∀ (s : State) (v : Word), s.pending = none → ∃ t, exec (.wr 0x010 v) s = .next t ∧ t.irq = false) ∧
  (∀ s : State, s.resetInput.irq = false) ∧
  (∀ (s : State) (b e : Bool), ({ s with bwe := b, err := e } : State).irq = s.irq)

/-- Through any number of transactions while BUSY = 1, PENDING and every operand a command reads keep their values: the inference of
43_control.md section 3, marked as the spec's own, that every operand "has the same value at the completion step as at acceptance". -/
def Obligations.OperandsAreFixedWhileBusy : Prop :=
  ∀ (ms rest : List Move) (s : State) (v : Word), Reference.OnlyBus ms → s.pending = some v → s.moves = ms ++ rest →
    ∃ t, Reference.run ms.length s = .next t ∧ t.moves = rest ∧ t.pending = some v ∧
      t.cost = s.cost ∧ t.keylen = s.keylen ∧ t.key = s.key ∧ t.salt = s.salt ∧ t.dataL = s.dataL ∧ t.dataR = s.dataR ∧
      t.bf = s.bf ∧ t.sv = s.sv ∧ t.ct = s.ct

/-- The inference of 43_control.md section 3, marked as the spec's own, that "a model may read the operands at acceptance or at completion with the same result": a completion step after any number of
transactions made while BUSY = 1 has the outputs and the status it would have had before them. -/
def Obligations.CompletionDoesNotDependOnWhen : Prop :=
  ∀ (ms rest : List Move) (s : State) (v : Word), Reference.OnlyBus ms → s.pending = some v → s.moves = ms ++ .engine :: rest →
    ∃ late early, Reference.run (ms.length + 1) s = .next late ∧ step { s with moves := .engine :: rest } = .next early ∧
      late.bf = early.bf ∧ late.sv = early.sv ∧ late.ct = early.ct ∧ late.dataL = early.dataL ∧ late.dataR = early.dataR ∧
      late.cost = early.cost ∧ late.keylen = early.keylen ∧ late.salt = early.salt ∧ late.key = early.key ∧
      late.pending = early.pending ∧ late.ecode = early.ecode ∧ late.err = early.err ∧ late.done = early.done ∧
      late.moves = early.moves

/-! ## Bus transactions (10_state.md, 20_memory.md) -/

/-- R21: the offset of each register. -/
def Obligations.RegisterMapOffsets : Prop :=
  regAt 0x000 = .id ∧ regAt 0x004 = .version ∧ regAt 0x008 = .ctrl ∧ regAt 0x00C = .status ∧ regAt 0x010 = .cmd ∧
  regAt 0x014 = .cost ∧ regAt 0x018 = .keylen ∧ regAt 0x030 = .dataL ∧ regAt 0x034 = .dataR ∧
  (∀ k : Fin 4, regAt (BitVec.ofNat 14 (0x020 + 4 * k.val)) = .salt k) ∧
  (∀ k : Fin 6, regAt (BitVec.ofNat 14 (0x040 + 4 * k.val)) = .ct k) ∧
  (∀ k : Fin 18, regAt (BitVec.ofNat 14 (0x080 + 4 * k.val)) = .key k) ∧
  (∀ i : Fin 18, regAt (BitVec.ofNat 14 (0x1000 + 4 * i.val)) = .pwin i) ∧
  (∀ (j : Fin 4) (n : Fin 256), regAt (BitVec.ofNat 14 (0x2000 + 0x400 * j.val + 4 * n.val)) = .swin j n) ∧
  (∀ addr : BitVec 14, regAt addr = .reserved ↔ ¬ Reference.Named (Reference.off addr))

/-- R60: RD, on every offset and in every state: the value returned, and no state of the block changed (`rdata` is where the model keeps
what the block drives, log 4). -/
def Obligations.ReadTransactionReturns : Prop :=
  ∀ (addr : BitVec 14) (s : State),
    exec (.rd addr) s = .next { s with rdata := Reference.rdValue Config.secretReadback addr s }

/-- R61: WR, on every offset and in every state. -/
def Obligations.WriteTransactionStores : Prop :=
  ∀ (addr : BitVec 14) (v : Word) (s : State), exec (.wr addr v) s = .next (Reference.wrState addr v s)

/-- R66: two transactions whose addresses differ in bits 1:0 only behave alike. -/
def Obligations.SubWordAddressBitsAreIgnored : Prop :=
  ∀ (addr addr' : BitVec 14) (v : Word) (s : State), addr.toNat / 4 = addr'.toNat / 4 →
    exec (.rd addr) s = exec (.rd addr') s ∧ exec (.wr addr v) s = exec (.wr addr' v) s

/-- R35: an offset not named in R21 reads as 0 and ignores writes, and a write to it sets no flag, even while BUSY. -/
def Obligations.ReservedOffsetsReadZeroIgnoreWrites : Prop :=
  ∀ (addr : BitVec 14) (v : Word) (s : State), ¬ Reference.Named (Reference.off addr) →
    exec (.rd addr) s = .next { s with rdata := 0 } ∧ exec (.wr addr v) s = .next s

/-- R38: while BUSY = 1 a read of any offset other than ID, VERSION, CTRL and STATUS returns 0 and has no side effect. -/
def Obligations.BusyReadsReturnZero : Prop :=
  ∀ (addr : BitVec 14) (s : State) (w : Word), s.pending = some w →
    Reference.off addr ∉ [0x000, 0x004, 0x008, 0x00C] → exec (.rd addr) s = .next { s with rdata := 0 }

/-- R39, R162: while BUSY = 1 a write to CMD, COST, KEYLEN, SALT, DATA or KEY changes nothing but BWE; a write to CTRL or STATUS takes
effect; any other is ignored without setting BWE. -/
def Obligations.BusyWritesAreDropped : Prop :=
  ∀ (addr : BitVec 14) (v w : Word) (s : State), s.pending = some w →
    let o := Reference.off addr
    (o ∈ [0x010, 0x014, 0x018, 0x030, 0x034] ∨ (0x020 ≤ o ∧ o ≤ 0x02C) ∨ (0x080 ≤ o ∧ o ≤ 0x0C4) →
      exec (.wr addr v) s = .next { s with bwe := true }) ∧
    (o = 0x008 → exec (.wr addr v) s = .next { s with ie := v.getLsbD 0 }) ∧
    (o = 0x00C → exec (.wr addr v) s = .next
      { s with done := s.done && !v.getLsbD 1, err := s.err && !v.getLsbD 2, bwe := s.bwe && !v.getLsbD 3 }) ∧
    (o ∈ [0x000, 0x004] ∨ (0x040 ≤ o ∧ o ≤ 0x054) ∨ (0x1000 ≤ o ∧ o ≤ 0x1044) ∨ (0x2000 ≤ o ∧ o ≤ 0x2FFC) ∨
        ¬ Reference.Named o →
      exec (.wr addr v) s = .next s)

/-- R24: CTRL. A write stores bit 0 in IE and nothing else, whether or not BUSY is set; a read returns IE in bit 0; IE enables the
completion interrupt. -/
def Obligations.ControlRegisterHoldsIe : Prop :=
  (∀ (s : State) (v : Word), exec (.wr 0x008 v) s = .next { s with ie := v.getLsbD 0 }) ∧
  (∀ s : State, exec (.rd 0x008) s = .next { s with rdata := if s.ie then 1 else 0 }) ∧
  (∀ s : State, s.irq = (s.ie && s.done)) ∧ State.reset.ie = false

/-- R25: the bits of the word a read of STATUS returns, and what a write clears. -/
def Obligations.StatusRegisterBits : Prop :=
  (∀ s : State, ∃ t, exec (.rd 0x00C) s = .next t ∧ t = { s with rdata := t.rdata } ∧
    t.rdata.getLsbD 0 = s.pending.isSome ∧ t.rdata.getLsbD 1 = s.done ∧ t.rdata.getLsbD 2 = s.err ∧ t.rdata.getLsbD 3 = s.bwe ∧
    t.rdata.getLsbD 4 = s.sv ∧ t.rdata.extractLsb' 5 3 = 0 ∧ t.rdata.extractLsb' 8 4 = s.ecode ∧ t.rdata.extractLsb' 12 20 = 0) ∧
  (∀ (s : State) (v : Word), ∃ t, exec (.wr 0x00C v) s = .next t ∧
    t = { s with done := t.done, err := t.err, bwe := t.bwe } ∧
    (t.done = true ↔ s.done = true ∧ v.getLsbD 1 = false) ∧ (t.err = true ↔ s.err = true ∧ v.getLsbD 2 = false) ∧
    (t.bwe = true ↔ s.bwe = true ∧ v.getLsbD 3 = false))

/-- R36, R37: with SECRET_READBACK false, KEY, PWIN and SWIN read 0 whatever their content, and no other register's read changes; with
it true, an idle block returns KEY, and P and S when SV = 1; PWIN and SWIN read 0 while SV = 0 or BUSY = 1; KEY is written whatever the
parameter, and a write of PWIN or SWIN is ignored. -/
def Obligations.SecretReadbackGuardsKeyAndSchedule : Prop :=
  (∀ (addr : BitVec 14) (s : State), exec (.rd addr) s = .next { s with rdata := s.readReg Config.secretReadback (regAt addr) }) ∧
  (∀ s : State, (∀ k, s.readReg false (.key k) = 0) ∧ (∀ i, s.readReg false (.pwin i) = 0) ∧
    (∀ j n, s.readReg false (.swin j n) = 0)) ∧
  (∀ (s : State) (r : Reg), (∀ k, r ≠ .key k) → (∀ i, r ≠ .pwin i) → (∀ j n, r ≠ .swin j n) →
    s.readReg false r = s.readReg true r) ∧
  (∀ s : State, s.pending = none → (∀ k : Fin 18, s.readReg true (.key k) = s.key[k]) ∧
    (s.sv = true → (∀ i : Fin 18, s.readReg true (.pwin i) = s.bf.p[i]) ∧
      (∀ (j : Fin 4) (n : Fin 256), s.readReg true (.swin j n) = s.bf.s[j][n]))) ∧
  (∀ (s : State) (v : Word) (k : Fin 18), s.pending = none →
    exec (.wr (BitVec.ofNat 14 (0x080 + 4 * k.val)) v) s = .next { s with key := s.key.set k v }) ∧
  (∀ (s : State) (rb : Bool), s.sv = false ∨ s.pending ≠ none →
    (∀ i, s.readReg rb (.pwin i) = 0) ∧ (∀ j n, s.readReg rb (.swin j n) = 0)) ∧
  (∀ (s : State) (v : Word), (∀ i : Fin 18, exec (.wr (BitVec.ofNat 14 (0x1000 + 4 * i.val)) v) s = .next s) ∧
    (∀ (j : Fin 4) (n : Fin 256), exec (.wr (BitVec.ofNat 14 (0x2000 + 0x400 * j.val + 4 * n.val)) v) s = .next s))

/-- R68: a read has no side effect on the block, and repeating it returns the same value. -/
def Obligations.ReadsAreIdempotent : Prop :=
  ∀ (addr : BitVec 14) (s : State), ∃ t, exec (.rd addr) s = .next t ∧ t = { s with rdata := t.rdata } ∧
    exec (.rd addr) t = .next t

/-- R69, and R67 as log 9 takes it: no 32-bit transaction, completion step or reset stops the machine, and an access narrower than 32 bits is refused. -/
def Obligations.OnlyNarrowAccessesAreRefused : Prop :=
  (∀ s : State, s.wordAccessesOnly = true → ∃ t, step s = .next t ∧ t.wordAccessesOnly = true) ∧
  (∀ (s : State) (z : NarrowSize) (w : BitVec 47) (ms : List Move), s.moves = .narrowBus z w :: ms →
    step s = .refused (.narrowAccess z))

/-- R62, R84: a 32-bit platform access inside the window arrives as the transaction at its offset from BASE, with its direction and its
data. The rest is the model's, deduced from the spec: that one outside the window is no event of the block and that BASE is a multiple
of 16 KiB by its definition (log 7), and that a narrower one arrives as a narrow access (log 9). -/
def Obligations.PlatformAccessReachesItsOffset : Prop :=
  (∀ (a : PlatformAccess) (offset : Nat), a.addr = Config.base + offset → offset < 0x4000 →
    ∃ w, decodeBus w = (if a.we then .wr (BitVec.ofNat 14 offset) a.wdata else .rd (BitVec.ofNat 14 offset)) ∧
      platformMove a = some (match a.size with
        | .word => .bus w
        | .narrow z => .narrowBus z w)) ∧
  (∀ a : PlatformAccess, a.addr < Config.base ∨ Config.base + 0x4000 ≤ a.addr → platformMove a = none) ∧
  Config.base % 0x4000 = 0

/-! ## Byte order and operands (00_scope.md R13; 30_encoding.md R83; 41_eksblowfish.md R120) -/

/-- R13: `be32`, its inverse `bytes_be`, and the bytes of a sequence of words. -/
def Obligations.BytesPackBigEndian : Prop :=
  (∀ b0 b1 b2 b3 : Byte,
    (be32 b0 b1 b2 b3).toNat = b0.toNat * 2 ^ 24 + b1.toNat * 2 ^ 16 + b2.toNat * 2 ^ 8 + b3.toNat) ∧
  (∀ b0 b1 b2 b3 : Byte, bytesBE (be32 b0 b1 b2 b3) = [b0, b1, b2, b3]) ∧
  (∀ w : Word, (bytesBE w).map BitVec.toNat =
    [w.toNat / 2 ^ 24, w.toNat / 2 ^ 16 % 256, w.toNat / 2 ^ 8 % 256, w.toNat % 256]) ∧
  (∀ (w : Word) (ws : List Word), bytesOf (w :: ws) = bytesBE w ++ bytesOf ws) ∧ bytesOf [] = []

/-- R31, R34, R83: the key of KS = 0 is KEY bytes 0 .. KEYLEN-1 and the key of KS = 1 the 16 SALT bytes, each byte at its bits. -/
def Obligations.KeyAndSaltBytesAtTheirBits : Prop :=
  (∀ s : State, s.keylen.toNat ≤ 72 → s.keyOperand.length = s.keylen.toNat) ∧
  (∀ (s : State) (m : Fin 72), m.val < s.keylen.toNat → s.keyOperand[m.val]? = some (Reference.keyByteAt s.key m)) ∧
  (∀ s : State, s.saltOperand.length = 16) ∧
  (∀ (s : State) (m : Fin 16), s.saltOperand[m.val]? = some (Reference.saltByteAt s.salt m))

/-- R120: `A(i)`, from the cyclic key bytes `4i` to `4i + 3`, for every key of 1 to 72 bytes. -/
def Obligations.KeyStreamIsCyclic : Prop :=
  ∀ (k : List Byte) (i : Nat), 1 ≤ k.length → k.length ≤ 72 → i < 18 →
    ∃ b0 b1 b2 b3 : Byte,
      k[4 * i % k.length]? = some b0 ∧ k[(4 * i + 1) % k.length]? = some b1 ∧
      k[(4 * i + 2) % k.length]? = some b2 ∧ k[(4 * i + 3) % k.length]? = some b3 ∧
      (keyWord k i).toNat = b0.toNat * 2 ^ 24 + b1.toNat * 2 ^ 16 + b2.toNat * 2 ^ 8 + b3.toNat

/-- The 16-byte salt used as a key gives `A(i) = SALT[i mod 4]`, which R128 marks as the spec's own inference. -/
def Obligations.SaltKeyStreamIsTheSaltWords : Prop :=
  ∀ (salt : Vector Word 4) (i : Fin 18), keyWord (saltBytes salt) i.val = salt[i.val % 4]

/-! ## Blowfish (40_blowfish.md) -/

/-- R103, R104: the F-function, in natural numbers. -/
def Obligations.FeistelFunctionValue : Prop :=
  ∀ (b : BlowfishState) (x : Word) (i0 i1 i2 i3 : Fin 256),
    i0.val = x.toNat / 2 ^ 24 → i1.val = x.toNat / 2 ^ 16 % 256 → i2.val = x.toNat / 2 ^ 8 % 256 → i3.val = x.toNat % 256 →
    (feistelF b x).toNat =
      (((((b.s[0])[i0]).toNat + ((b.s[1])[i1]).toNat) % 2 ^ 32 ^^^ ((b.s[2])[i2]).toNat) + ((b.s[3])[i3]).toNat) % 2 ^ 32

/-- Encipher is the "Equivalent unrolled form" of 40_blowfish.md section 3, which the spec marks as its own inference. -/
def Obligations.EncipherIsTheUnrolledForm : Prop :=
  ∀ (b : BlowfishState) (l r : Word), ∃ x y : Nat → Word,
    x 0 = l ∧ y 0 = r ∧
    (∀ i : Fin 16, x (i.val + 1) = y i.val ^^^ feistelF b (x i.val ^^^ b.p[i.val]) ∧ y (i.val + 1) = x i.val ^^^ b.p[i.val]) ∧
    encipher b (l, r) = (y 16 ^^^ b.p[17], x 16 ^^^ b.p[16])

/-- R102: INIT loads every word of the canonical constants, sets SV and completes, and leaves every other register. -/
def Obligations.InitLoadsTheConstants : Prop :=
  ∀ s : State, ∃ b : BlowfishState,
    exec .init s = .next (Reference.succeeded { s with bf := b, sv := true }) ∧
    (∀ i : Fin 18, b.p[i] = piw i.val) ∧ (∀ (j : Fin 4) (n : Fin 256), b.s[j][n] = piw (18 + 256 * j.val + n.val))

/-- R110: ENCRYPT. -/
def Obligations.EncryptEnciphersTheBlock : Prop :=
  ∀ s : State,
    (s.sv = true → exec .encrypt s = .next (Reference.succeeded
      { s with dataL := (encipher s.bf (s.dataL, s.dataR)).1, dataR := (encipher s.bf (s.dataL, s.dataR)).2 })) ∧
    (s.sv = false → exec .encrypt s = .next (Reference.failed 5 s))

/-! ## EksBlowfish (41_eksblowfish.md) -/

/-- ExpandKey (R122) is the XOR of the key stream into P, then 521 Steps, of which Step `k` XORs salt half `k mod 2` (when sx = 1),
enciphers with P and S as overwritten so far, and overwrites words `2k` and `2k + 1`. The count, the order of the words and the halves
are the inferences that 41_eksblowfish.md section 2 marks as the spec's own: "521 calls of Encipher", "every word of P and S is
overwritten exactly once", "step k (k = 0..520, counting all 521 Steps of one ExpandKey) XORs salt half `k mod 2`". -/
def Obligations.ExpandKeyIs521Steps : Prop :=
  ∀ (sx : Bool) (salt : Vector Word 4) (key : List Byte) (b : BlowfishState),
    ∃ (c : Nat → BlowfishState) (blk : Nat → Word × Word),
      (∀ n, n < 18 → Reference.wordAt (c 0) n = Reference.wordAt b n ^^^ keyWord key n) ∧
      (∀ n, 18 ≤ n → n < 1042 → Reference.wordAt (c 0) n = Reference.wordAt b n) ∧
      blk 0 = (0, 0) ∧
      (∀ k, k < 521 →
        blk (k + 1) = encipher (c k)
          (if sx then
            (if k % 2 = 0 then ((blk k).1 ^^^ salt[0], (blk k).2 ^^^ salt[1]) else ((blk k).1 ^^^ salt[2], (blk k).2 ^^^ salt[3]))
           else blk k) ∧
        ∀ n, n < 1042 → Reference.wordAt (c (k + 1)) n =
          if n = 2 * k then (blk (k + 1)).1 else if n = 2 * k + 1 then (blk (k + 1)).2 else Reference.wordAt (c k) n) ∧
      c 521 = expandKey sx salt key b

/-- R126, R127: EXPAND0KEY and EXPANDKEY. -/
def Obligations.ExpandWithTheKeyRegister : Prop :=
  ∀ s : State,
    (s.sv = true → 1 ≤ s.keylen.toNat → s.keylen.toNat ≤ 72 →
      exec .expand0key s = .next (Reference.succeeded { s with bf := expandKey false s.salt s.keyOperand s.bf }) ∧
      exec .expandkey s = .next (Reference.succeeded { s with bf := expandKey true s.salt s.keyOperand s.bf })) ∧
    (s.sv = false → exec .expand0key s = .next (Reference.failed 5 s) ∧ exec .expandkey s = .next (Reference.failed 5 s)) ∧
    (s.sv = true → s.keylen.toNat < 1 ∨ 72 < s.keylen.toNat →
      exec .expand0key s = .next (Reference.failed 3 s) ∧ exec .expandkey s = .next (Reference.failed 3 s))

/-- R128, R129: EXPAND0SALT and EXPANDSALT, for which KEYLEN is neither read nor checked. -/
def Obligations.ExpandWithTheSaltAsKey : Prop :=
  ∀ s : State,
    (s.sv = true →
      exec .expand0salt s = .next (Reference.succeeded { s with bf := expandKey false s.salt s.saltOperand s.bf }) ∧
      exec .expandsalt s = .next (Reference.succeeded { s with bf := expandKey true s.salt s.saltOperand s.bf })) ∧
    (s.sv = false → exec .expand0salt s = .next (Reference.failed 5 s) ∧ exec .expandsalt s = .next (Reference.failed 5 s))

/-- R122: "XOR with zero is the identity": a zero salt is no salt, whatever the key and the schedule, and with sx = 0 the salt is not
read. The last clause is the sentence "SALT = 0 makes EXPANDKEY equal to EXPAND0KEY" of 41_eksblowfish.md section 3, which the spec
marks as its own inference. -/
def Obligations.ZeroSaltIsNoSalt : Prop :=
  (∀ (salt : Vector Word 4) (key : List Byte) (b : BlowfishState), (∀ k : Fin 4, salt[k] = 0) →
    expandKey true salt key b = expandKey false salt key b) ∧
  (∀ (salt salt' : Vector Word 4) (key : List Byte) (b : BlowfishState), expandKey false salt key b = expandKey false salt' key b) ∧
  (∀ s : State, (∀ k : Fin 4, s.salt[k] = 0) → exec .expandkey s = exec .expand0key s)

/-- R34, R126: KEY bytes at index KEYLEN and above are ignored by every command: two states that differ in them only run alike. -/
def Obligations.KeyBytesBeyondKeylenAreIgnored : Prop :=
  ∀ (i : Instr) (s : State) (key : Vector Word 18), i.isCommand = true → Reference.SameKeyBytes s.keylen.toNat s.key key →
    ∃ t t', exec i s = .next t ∧ exec i { s with key := key } = .next t' ∧ t' = { t with key := t'.key }

/-- R131, R132: SETUP: the two errors in their order, and on success the constants, one ExpandKey with salt and key, and 2^COST times
the pair of ExpandKey with the key and with the salt as key. -/
def Obligations.SetupRunsTheKeySchedule : Prop :=
  ∀ s : State,
    (4 ≤ s.cost.toNat → s.cost.toNat ≤ 31 → 1 ≤ s.keylen.toNat → s.keylen.toNat ≤ 72 →
      exec .setup s = .next (Reference.succeeded
        { s with
          bf := Nat.iterate (fun b => expandKey false s.salt s.saltOperand (expandKey false s.salt s.keyOperand b)) (2 ^ s.cost.toNat)
            (expandKey true s.salt s.keyOperand piState)
          sv := true })) ∧
    (s.cost.toNat < 4 ∨ 31 < s.cost.toNat → exec .setup s = .next (Reference.failed 1 s)) ∧
    (4 ≤ s.cost.toNat → s.cost.toNat ≤ 31 → s.keylen.toNat < 1 ∨ 72 < s.keylen.toNat →
      exec .setup s = .next (Reference.failed 3 s))

/-- The inference of 41_eksblowfish.md section 4, marked as the spec's own: when validation passes, SETUP leaves the state as INIT, EXPANDKEY, then 2^COST repetitions of (EXPAND0KEY, EXPAND0SALT)
would. The model's completed SETUP and the completed last command of the sequence leave the same state altogether. -/
def Obligations.SetupIsTheCommandSequence : Prop :=
  ∀ s : State, 4 ≤ s.cost.toNat → s.cost.toNat ≤ 31 → 1 ≤ s.keylen.toNat → s.keylen.toNat ≤ 72 →
    exec .setup s = .next
      (Nat.iterate (fun u => Reference.after .expand0salt (Reference.after .expand0key u)) (2 ^ s.cost.toNat)
        (Reference.after .expandkey (Reference.after .init s)))

/-! ## bcrypt digest (42_bcrypt_ecb.md) -/

/-- R153: ECB64. -/
def Obligations.Ecb64WritesTheDigest : Prop :=
  ∀ s : State,
    (s.sv = true → exec .ecb64 s = .next (Reference.succeeded { s with ct := ecb64core s.bf })) ∧
    (s.sv = false → exec .ecb64 s = .next (Reference.failed 5 s))

/-- The block-major order that 42_bcrypt_ecb.md section 2 marks as the spec's own inference: the digest is each block of the magic constant enciphered 64 times, the blocks never mixing. -/
def Obligations.DigestIsBlockMajor : Prop :=
  ∀ (b : BlowfishState) (k : Fin 3),
    ((ecb64core b)[2 * k.val], (ecb64core b)[2 * k.val + 1]) =
      Nat.iterate (encipher b) 64
        (if k.val = 0 then (0x4F727068, 0x65616E42)
         else if k.val = 1 then (0x65686F6C, 0x64657253)
         else (0x63727944, 0x6F756274))

/-- R154: CRYPT. -/
def Obligations.CryptDerivesAndEncrypts : Prop :=
  ∀ s : State,
    (4 ≤ s.cost.toNat → s.cost.toNat ≤ 31 → 1 ≤ s.keylen.toNat → s.keylen.toNat ≤ 72 →
      exec .crypt s = .next (Reference.succeeded
        { s with
          bf := eksSetup s.cost.toNat s.salt s.keyOperand
          sv := true
          ct := ecb64core (eksSetup s.cost.toNat s.salt s.keyOperand) })) ∧
    (s.cost.toNat < 4 ∨ 31 < s.cost.toNat → exec .crypt s = .next (Reference.failed 1 s)) ∧
    (4 ≤ s.cost.toNat → s.cost.toNat ≤ 31 → s.keylen.toNat < 1 ∨ 72 < s.keylen.toNat →
      exec .crypt s = .next (Reference.failed 3 s))

/-- R85, R154: CRYPT is SETUP then ECB64, and a following ECB64 reproduces the same CT. -/
def Obligations.CryptIsSetupThenEcb64 : Prop :=
  ∀ s : State, 4 ≤ s.cost.toNat → s.cost.toNat ≤ 31 → 1 ≤ s.keylen.toNat → s.keylen.toNat ≤ 72 →
    exec .crypt s = exec .ecb64 (Reference.after .setup s) ∧
    exec .ecb64 (Reference.after .crypt s) = exec .crypt s

/-- The inference of 42_bcrypt_ecb.md section 4, marked as the spec's own: the CT written by CRYPT is a function of COST, KEYLEN, KEY bytes 0 .. KEYLEN-1 and SALT alone: two states that agree on
these, and on nothing else, get the same error or the same CT and the same schedule. -/
def Obligations.CryptDependsOnItsOperandsAlone : Prop :=
  ∀ s s' : State, s.cost = s'.cost → s.keylen = s'.keylen → s.salt = s'.salt →
    Reference.SameKeyBytes s.keylen.toNat s.key s'.key →
    ∃ t t', exec .crypt s = .next t ∧ exec .crypt s' = .next t' ∧ t.ecode = t'.ecode ∧
      (t.ecode = 0 → t.ct = t'.ct ∧ t.bf = t'.bf)

/-! ## NOP, ZEROIZE, reset and the invariants (43_control.md, 10_state.md, 70_reset_and_hazards.md) -/

/-- R170: NOP. -/
def Obligations.NopOnlyCompletes : Prop := ∀ s : State, exec .nop s = .next (Reference.succeeded s)

/-- R171: ZEROIZE clears P, S, SV, COST, KEYLEN, SALT, DATA, CT and KEY and leaves CTRL and BWE. -/
def Obligations.ZeroizeClearsSecrets : Prop :=
  ∀ s : State, ∃ t, exec .zeroize s = .next t ∧
    (∀ i : Fin 18, t.bf.p[i] = 0) ∧ (∀ (j : Fin 4) (n : Fin 256), t.bf.s[j][n] = 0) ∧ t.sv = false ∧ t.cost = 0 ∧ t.keylen = 0 ∧
    (∀ k : Fin 4, t.salt[k] = 0) ∧ t.dataL = 0 ∧ t.dataR = 0 ∧ (∀ k : Fin 6, t.ct[k] = 0) ∧ (∀ k : Fin 18, t.key[k] = 0) ∧
    t.done = true ∧ t.err = false ∧ t.ecode = 0 ∧ t.pending = none ∧ t.ie = s.ie ∧ t.bwe = s.bwe ∧
    t.rdata = s.rdata ∧ t.moves = s.moves ∧ t.resets = s.resets

/-- R47: the state after reset, in the values the rule gives. -/
def Obligations.ResetValues : Prop :=
  State.reset.ie = false ∧ State.reset.busy = false ∧ State.reset.done = false ∧ State.reset.err = false ∧
  State.reset.bwe = false ∧ State.reset.sv = false ∧ State.reset.ecode = 0 ∧ State.reset.cost = 0 ∧ State.reset.keylen = 0 ∧
  (∀ k : Fin 4, State.reset.salt[k] = 0) ∧ State.reset.dataL = 0 ∧ State.reset.dataR = 0 ∧ (∀ k : Fin 6, State.reset.ct[k] = 0) ∧
  (∀ k : Fin 18, State.reset.key[k] = 0) ∧ State.reset.pending = none ∧ State.reset.irq = false ∧
  exec (.rd 0x000) State.reset = .next { State.reset with rdata := 0x42464531 } ∧
  exec (.rd 0x004) State.reset = .next { State.reset with rdata := 0x00010000 }

/-- R230, R231: the reset input, in any state, a command in progress among them: every register the rule gives a value has it, nothing
of the pending command is kept, no DONE and no IRQ is produced, and the block is idle. -/
def Obligations.ResetInputAbandonsAndClears : Prop :=
  ∀ (s : State) (ms : List Move), s.moves = .reset :: ms →
    ∃ t, step s = .next t ∧ t.ie = false ∧ t.busy = false ∧ t.done = false ∧ t.err = false ∧ t.bwe = false ∧ t.ecode = 0 ∧
      t.sv = false ∧ t.cost = 0 ∧ t.keylen = 0 ∧ (∀ k : Fin 4, t.salt[k] = 0) ∧ t.dataL = 0 ∧ t.dataR = 0 ∧
      (∀ k : Fin 6, t.ct[k] = 0) ∧ (∀ k : Fin 18, t.key[k] = 0) ∧ t.pending = none ∧ t.irq = false ∧ t.moves = ms

/-- Every step keeps the invariants of STATUS, which 10_state.md section 2 marks as the spec's own inference ("STATUS invariants the
hardware keeps"), and reports no reserved code (R200). -/
def Obligations.StepKeepsStatusInvariant : Prop :=
  ∀ s t : State, s.StatusInv → step s = .next t → t.StatusInv

/-- The invariant of 10_state.md section 3 that the spec marks as its own inference: every step keeps that P and S hold a schedule whenever SV = 1. -/
def Obligations.StepKeepsScheduleInvariant : Prop :=
  ∀ s t : State, s.ScheduleInv → step s = .next t → t.ScheduleInv

/-- The two invariants hold at reset; the one of P and S does so because SV = 0, whatever they hold (log 1). -/
def Obligations.InvariantsHoldAtReset : Prop := State.reset.StatusInv ∧ State.reset.ScheduleInv

/-- R42, R48: while SV = 0 nothing shows what P and S hold: two states a host cannot tell apart step alike, and to states it cannot
tell apart. It rests on no value the model chose for P and S after reset (log 1). -/
def Obligations.ScheduleIsUnobservableWhileSvIsZero : Prop :=
  ∀ s s' t : State, s.SameToHost s' → step s = .next t →
    ∃ t', step s' = .next t' ∧ t.SameToHost t' ∧ t.rdata = t'.rdata ∧ t.irq = t'.irq
end

