-- ==== Sys2Proof/Laws/Bytes.lean ====
section
/-! SUPPORT. Laws/Bytes.lean: the byte sequences of words, by length and by index. -/

namespace Sys2Proof.Machine

open Sys2Proof

@[simp] theorem bytesBE_length (w : Word) : (bytesBE w).length = 4 := rfl

@[simp] theorem bytesOf_length (ws : List Word) : (bytesOf ws).length = 4 * ws.length := by
  induction ws with
  | nil => rfl
  | cons w ws ih =>
    change (bytesBE w ++ bytesOf ws).length = _
    rw [List.length_append, ih, bytesBE_length, List.length_cons]
    omega

@[simp] theorem saltBytes_length (salt : Vector Word 4) : (saltBytes salt).length = 16 := by simp [saltBytes]

theorem keyBytes_length (key : Vector Word 18) {n : BitVec 8} (h : n.toNat ≤ 72) : (keyBytes key n).length = n.toNat := by
  simp [keyBytes]; omega

/-- R13, R31, R34: byte `m` of a sequence of words. -/
theorem bytesOf_getElem? (ws : List Word) (m : Nat) (h : m / 4 < ws.length) :
    (bytesOf ws)[m]? = some (BitVec.ofNat 8 (ws[m / 4].toNat / 2 ^ (24 - 8 * (m % 4)))) := by
  induction ws generalizing m with
  | nil => simp at h
  | cons w ws ih =>
    change (bytesBE w ++ bytesOf ws)[m]? = _
    by_cases hm : m < 4
    · rw [List.getElem?_append_left (by simpa using hm)]
      have h0 : m / 4 = 0 := by omega
      simp only [h0, List.getElem_cons_zero]
      interval_cases m <;> simp [bytesBE] <;> apply BitVec.eq_of_toNat_eq <;> simp [Nat.shiftRight_eq_div_pow]
    · rw [List.getElem?_append_right (by simp; omega)]
      have h1 : m / 4 = (m - 4) / 4 + 1 := by omega
      have h2 : m % 4 = (m - 4) % 4 := by omega
      simp only [h1, h2, List.getElem_cons_succ, bytesBE_length]
      exact ih (m - 4) (by rw [List.length_cons] at h; omega)

/-- R120: the key byte at a stream position. -/
theorem keyByte_getElem? (k : List Byte) (m : Nat) (h : 1 ≤ k.length) : k[m % k.length]? = some (keyByte k m) := by
  have : m % k.length < k.length := Nat.mod_lt _ h
  simp [keyByte, this]

end Sys2Proof.Machine
end

