-- ==== Sys2Proof/Laws/State.lean ====
section
/-! SUPPORT. Laws/State.lean: one lemma per field for each named update of State, so that no later proof unfolds one. -/

namespace Sys2Proof.Machine

open Sys2Proof

/-! R161: accepting a command. -/

@[simp] theorem State.accept_bf (v : Word) (s : State) : (s.accept v).bf = s.bf := rfl
@[simp] theorem State.accept_sv (v : Word) (s : State) : (s.accept v).sv = s.sv := rfl
@[simp] theorem State.accept_ie (v : Word) (s : State) : (s.accept v).ie = s.ie := rfl
@[simp] theorem State.accept_done (v : Word) (s : State) : (s.accept v).done = false := rfl
@[simp] theorem State.accept_err (v : Word) (s : State) : (s.accept v).err = false := rfl
@[simp] theorem State.accept_bwe (v : Word) (s : State) : (s.accept v).bwe = s.bwe := rfl
@[simp] theorem State.accept_ecode (v : Word) (s : State) : (s.accept v).ecode = 0 := rfl
@[simp] theorem State.accept_cost (v : Word) (s : State) : (s.accept v).cost = s.cost := rfl
@[simp] theorem State.accept_keylen (v : Word) (s : State) : (s.accept v).keylen = s.keylen := rfl
@[simp] theorem State.accept_salt (v : Word) (s : State) : (s.accept v).salt = s.salt := rfl
@[simp] theorem State.accept_dataL (v : Word) (s : State) : (s.accept v).dataL = s.dataL := rfl
@[simp] theorem State.accept_dataR (v : Word) (s : State) : (s.accept v).dataR = s.dataR := rfl
@[simp] theorem State.accept_ct (v : Word) (s : State) : (s.accept v).ct = s.ct := rfl
@[simp] theorem State.accept_key (v : Word) (s : State) : (s.accept v).key = s.key := rfl
@[simp] theorem State.accept_pending (v : Word) (s : State) : (s.accept v).pending = some v := rfl
@[simp] theorem State.accept_rdata (v : Word) (s : State) : (s.accept v).rdata = s.rdata := rfl
@[simp] theorem State.accept_moves (v : Word) (s : State) : (s.accept v).moves = s.moves := rfl
@[simp] theorem State.accept_resets (v : Word) (s : State) : (s.accept v).resets = s.resets := rfl

/-! R163: the status part of the completion step. -/

@[simp] theorem State.completeWith_bf (e : BitVec 4) (s : State) : (s.completeWith e).bf = s.bf := rfl
@[simp] theorem State.completeWith_sv (e : BitVec 4) (s : State) : (s.completeWith e).sv = s.sv := rfl
@[simp] theorem State.completeWith_ie (e : BitVec 4) (s : State) : (s.completeWith e).ie = s.ie := rfl
@[simp] theorem State.completeWith_done (e : BitVec 4) (s : State) : (s.completeWith e).done = true := rfl
@[simp] theorem State.completeWith_err (e : BitVec 4) (s : State) : (s.completeWith e).err = (e != 0) := rfl
@[simp] theorem State.completeWith_bwe (e : BitVec 4) (s : State) : (s.completeWith e).bwe = s.bwe := rfl
@[simp] theorem State.completeWith_ecode (e : BitVec 4) (s : State) : (s.completeWith e).ecode = e := rfl
@[simp] theorem State.completeWith_cost (e : BitVec 4) (s : State) : (s.completeWith e).cost = s.cost := rfl
@[simp] theorem State.completeWith_keylen (e : BitVec 4) (s : State) : (s.completeWith e).keylen = s.keylen := rfl
@[simp] theorem State.completeWith_salt (e : BitVec 4) (s : State) : (s.completeWith e).salt = s.salt := rfl
@[simp] theorem State.completeWith_dataL (e : BitVec 4) (s : State) : (s.completeWith e).dataL = s.dataL := rfl
@[simp] theorem State.completeWith_dataR (e : BitVec 4) (s : State) : (s.completeWith e).dataR = s.dataR := rfl
@[simp] theorem State.completeWith_ct (e : BitVec 4) (s : State) : (s.completeWith e).ct = s.ct := rfl
@[simp] theorem State.completeWith_key (e : BitVec 4) (s : State) : (s.completeWith e).key = s.key := rfl
@[simp] theorem State.completeWith_pending (e : BitVec 4) (s : State) : (s.completeWith e).pending = none := rfl
@[simp] theorem State.completeWith_rdata (e : BitVec 4) (s : State) : (s.completeWith e).rdata = s.rdata := rfl
@[simp] theorem State.completeWith_moves (e : BitVec 4) (s : State) : (s.completeWith e).moves = s.moves := rfl
@[simp] theorem State.completeWith_resets (e : BitVec 4) (s : State) : (s.completeWith e).resets = s.resets := rfl

/-! R163, R164: successful completion. -/

@[simp] theorem State.complete_bf (s : State) : (s.complete).bf = s.bf := rfl
@[simp] theorem State.complete_sv (s : State) : (s.complete).sv = s.sv := rfl
@[simp] theorem State.complete_ie (s : State) : (s.complete).ie = s.ie := rfl
@[simp] theorem State.complete_done (s : State) : (s.complete).done = true := rfl
@[simp] theorem State.complete_err (s : State) : (s.complete).err = false := rfl
@[simp] theorem State.complete_bwe (s : State) : (s.complete).bwe = s.bwe := rfl
@[simp] theorem State.complete_ecode (s : State) : (s.complete).ecode = 0 := rfl
@[simp] theorem State.complete_cost (s : State) : (s.complete).cost = s.cost := rfl
@[simp] theorem State.complete_keylen (s : State) : (s.complete).keylen = s.keylen := rfl
@[simp] theorem State.complete_salt (s : State) : (s.complete).salt = s.salt := rfl
@[simp] theorem State.complete_dataL (s : State) : (s.complete).dataL = s.dataL := rfl
@[simp] theorem State.complete_dataR (s : State) : (s.complete).dataR = s.dataR := rfl
@[simp] theorem State.complete_ct (s : State) : (s.complete).ct = s.ct := rfl
@[simp] theorem State.complete_key (s : State) : (s.complete).key = s.key := rfl
@[simp] theorem State.complete_pending (s : State) : (s.complete).pending = none := rfl
@[simp] theorem State.complete_rdata (s : State) : (s.complete).rdata = s.rdata := rfl
@[simp] theorem State.complete_moves (s : State) : (s.complete).moves = s.moves := rfl
@[simp] theorem State.complete_resets (s : State) : (s.complete).resets = s.resets := rfl

/-! R201: completion with an error. -/

@[simp] theorem State.raiseError_bf (e : CmdError) (s : State) : (s.raiseError e).bf = s.bf := rfl
@[simp] theorem State.raiseError_sv (e : CmdError) (s : State) : (s.raiseError e).sv = s.sv := rfl
@[simp] theorem State.raiseError_ie (e : CmdError) (s : State) : (s.raiseError e).ie = s.ie := rfl
@[simp] theorem State.raiseError_done (e : CmdError) (s : State) : (s.raiseError e).done = true := rfl
@[simp] theorem State.raiseError_err (e : CmdError) (s : State) : (s.raiseError e).err = (e.code != 0) := rfl
@[simp] theorem State.raiseError_bwe (e : CmdError) (s : State) : (s.raiseError e).bwe = s.bwe := rfl
@[simp] theorem State.raiseError_ecode (e : CmdError) (s : State) : (s.raiseError e).ecode = e.code := rfl
@[simp] theorem State.raiseError_cost (e : CmdError) (s : State) : (s.raiseError e).cost = s.cost := rfl
@[simp] theorem State.raiseError_keylen (e : CmdError) (s : State) : (s.raiseError e).keylen = s.keylen := rfl
@[simp] theorem State.raiseError_salt (e : CmdError) (s : State) : (s.raiseError e).salt = s.salt := rfl
@[simp] theorem State.raiseError_dataL (e : CmdError) (s : State) : (s.raiseError e).dataL = s.dataL := rfl
@[simp] theorem State.raiseError_dataR (e : CmdError) (s : State) : (s.raiseError e).dataR = s.dataR := rfl
@[simp] theorem State.raiseError_ct (e : CmdError) (s : State) : (s.raiseError e).ct = s.ct := rfl
@[simp] theorem State.raiseError_key (e : CmdError) (s : State) : (s.raiseError e).key = s.key := rfl
@[simp] theorem State.raiseError_pending (e : CmdError) (s : State) : (s.raiseError e).pending = none := rfl
@[simp] theorem State.raiseError_rdata (e : CmdError) (s : State) : (s.raiseError e).rdata = s.rdata := rfl
@[simp] theorem State.raiseError_moves (e : CmdError) (s : State) : (s.raiseError e).moves = s.moves := rfl
@[simp] theorem State.raiseError_resets (e : CmdError) (s : State) : (s.raiseError e).resets = s.resets := rfl

/-! R39: a dropped write. -/

@[simp] theorem State.dropWrite_bf (s : State) : (s.dropWrite).bf = s.bf := rfl
@[simp] theorem State.dropWrite_sv (s : State) : (s.dropWrite).sv = s.sv := rfl
@[simp] theorem State.dropWrite_ie (s : State) : (s.dropWrite).ie = s.ie := rfl
@[simp] theorem State.dropWrite_done (s : State) : (s.dropWrite).done = s.done := rfl
@[simp] theorem State.dropWrite_err (s : State) : (s.dropWrite).err = s.err := rfl
@[simp] theorem State.dropWrite_bwe (s : State) : (s.dropWrite).bwe = true := rfl
@[simp] theorem State.dropWrite_ecode (s : State) : (s.dropWrite).ecode = s.ecode := rfl
@[simp] theorem State.dropWrite_cost (s : State) : (s.dropWrite).cost = s.cost := rfl
@[simp] theorem State.dropWrite_keylen (s : State) : (s.dropWrite).keylen = s.keylen := rfl
@[simp] theorem State.dropWrite_salt (s : State) : (s.dropWrite).salt = s.salt := rfl
@[simp] theorem State.dropWrite_dataL (s : State) : (s.dropWrite).dataL = s.dataL := rfl
@[simp] theorem State.dropWrite_dataR (s : State) : (s.dropWrite).dataR = s.dataR := rfl
@[simp] theorem State.dropWrite_ct (s : State) : (s.dropWrite).ct = s.ct := rfl
@[simp] theorem State.dropWrite_key (s : State) : (s.dropWrite).key = s.key := rfl
@[simp] theorem State.dropWrite_pending (s : State) : (s.dropWrite).pending = s.pending := rfl
@[simp] theorem State.dropWrite_rdata (s : State) : (s.dropWrite).rdata = s.rdata := rfl
@[simp] theorem State.dropWrite_moves (s : State) : (s.dropWrite).moves = s.moves := rfl
@[simp] theorem State.dropWrite_resets (s : State) : (s.dropWrite).resets = s.resets := rfl

/-! R24: a write of CTRL. -/

@[simp] theorem State.writeCtrl_bf (v : Word) (s : State) : (s.writeCtrl v).bf = s.bf := rfl
@[simp] theorem State.writeCtrl_sv (v : Word) (s : State) : (s.writeCtrl v).sv = s.sv := rfl
@[simp] theorem State.writeCtrl_ie (v : Word) (s : State) : (s.writeCtrl v).ie = v.getLsbD 0 := rfl
@[simp] theorem State.writeCtrl_done (v : Word) (s : State) : (s.writeCtrl v).done = s.done := rfl
@[simp] theorem State.writeCtrl_err (v : Word) (s : State) : (s.writeCtrl v).err = s.err := rfl
@[simp] theorem State.writeCtrl_bwe (v : Word) (s : State) : (s.writeCtrl v).bwe = s.bwe := rfl
@[simp] theorem State.writeCtrl_ecode (v : Word) (s : State) : (s.writeCtrl v).ecode = s.ecode := rfl
@[simp] theorem State.writeCtrl_cost (v : Word) (s : State) : (s.writeCtrl v).cost = s.cost := rfl
@[simp] theorem State.writeCtrl_keylen (v : Word) (s : State) : (s.writeCtrl v).keylen = s.keylen := rfl
@[simp] theorem State.writeCtrl_salt (v : Word) (s : State) : (s.writeCtrl v).salt = s.salt := rfl
@[simp] theorem State.writeCtrl_dataL (v : Word) (s : State) : (s.writeCtrl v).dataL = s.dataL := rfl
@[simp] theorem State.writeCtrl_dataR (v : Word) (s : State) : (s.writeCtrl v).dataR = s.dataR := rfl
@[simp] theorem State.writeCtrl_ct (v : Word) (s : State) : (s.writeCtrl v).ct = s.ct := rfl
@[simp] theorem State.writeCtrl_key (v : Word) (s : State) : (s.writeCtrl v).key = s.key := rfl
@[simp] theorem State.writeCtrl_pending (v : Word) (s : State) : (s.writeCtrl v).pending = s.pending := rfl
@[simp] theorem State.writeCtrl_rdata (v : Word) (s : State) : (s.writeCtrl v).rdata = s.rdata := rfl
@[simp] theorem State.writeCtrl_moves (v : Word) (s : State) : (s.writeCtrl v).moves = s.moves := rfl
@[simp] theorem State.writeCtrl_resets (v : Word) (s : State) : (s.writeCtrl v).resets = s.resets := rfl

/-! R25: a write of STATUS. -/

@[simp] theorem State.clearSticky_bf (v : Word) (s : State) : (s.clearSticky v).bf = s.bf := rfl
@[simp] theorem State.clearSticky_sv (v : Word) (s : State) : (s.clearSticky v).sv = s.sv := rfl
@[simp] theorem State.clearSticky_ie (v : Word) (s : State) : (s.clearSticky v).ie = s.ie := rfl
@[simp] theorem State.clearSticky_done (v : Word) (s : State) : (s.clearSticky v).done = (s.done && !v.getLsbD 1) := rfl
@[simp] theorem State.clearSticky_err (v : Word) (s : State) : (s.clearSticky v).err = (s.err && !v.getLsbD 2) := rfl
@[simp] theorem State.clearSticky_bwe (v : Word) (s : State) : (s.clearSticky v).bwe = (s.bwe && !v.getLsbD 3) := rfl
@[simp] theorem State.clearSticky_ecode (v : Word) (s : State) : (s.clearSticky v).ecode = s.ecode := rfl
@[simp] theorem State.clearSticky_cost (v : Word) (s : State) : (s.clearSticky v).cost = s.cost := rfl
@[simp] theorem State.clearSticky_keylen (v : Word) (s : State) : (s.clearSticky v).keylen = s.keylen := rfl
@[simp] theorem State.clearSticky_salt (v : Word) (s : State) : (s.clearSticky v).salt = s.salt := rfl
@[simp] theorem State.clearSticky_dataL (v : Word) (s : State) : (s.clearSticky v).dataL = s.dataL := rfl
@[simp] theorem State.clearSticky_dataR (v : Word) (s : State) : (s.clearSticky v).dataR = s.dataR := rfl
@[simp] theorem State.clearSticky_ct (v : Word) (s : State) : (s.clearSticky v).ct = s.ct := rfl
@[simp] theorem State.clearSticky_key (v : Word) (s : State) : (s.clearSticky v).key = s.key := rfl
@[simp] theorem State.clearSticky_pending (v : Word) (s : State) : (s.clearSticky v).pending = s.pending := rfl
@[simp] theorem State.clearSticky_rdata (v : Word) (s : State) : (s.clearSticky v).rdata = s.rdata := rfl
@[simp] theorem State.clearSticky_moves (v : Word) (s : State) : (s.clearSticky v).moves = s.moves := rfl
@[simp] theorem State.clearSticky_resets (v : Word) (s : State) : (s.clearSticky v).resets = s.resets := rfl

/-! R230: the reset input. -/

@[simp] theorem State.resetInput_bf (s : State) : (s.resetInput).bf = residueState s.resets s.heldWords := rfl
@[simp] theorem State.resetInput_sv (s : State) : (s.resetInput).sv = false := rfl
@[simp] theorem State.resetInput_ie (s : State) : (s.resetInput).ie = false := rfl
@[simp] theorem State.resetInput_done (s : State) : (s.resetInput).done = false := rfl
@[simp] theorem State.resetInput_err (s : State) : (s.resetInput).err = false := rfl
@[simp] theorem State.resetInput_bwe (s : State) : (s.resetInput).bwe = false := rfl
@[simp] theorem State.resetInput_ecode (s : State) : (s.resetInput).ecode = 0 := rfl
@[simp] theorem State.resetInput_cost (s : State) : (s.resetInput).cost = 0 := rfl
@[simp] theorem State.resetInput_keylen (s : State) : (s.resetInput).keylen = 0 := rfl
@[simp] theorem State.resetInput_salt (s : State) : (s.resetInput).salt = Vector.replicate 4 0 := rfl
@[simp] theorem State.resetInput_dataL (s : State) : (s.resetInput).dataL = 0 := rfl
@[simp] theorem State.resetInput_dataR (s : State) : (s.resetInput).dataR = 0 := rfl
@[simp] theorem State.resetInput_ct (s : State) : (s.resetInput).ct = Vector.replicate 6 0 := rfl
@[simp] theorem State.resetInput_key (s : State) : (s.resetInput).key = Vector.replicate 18 0 := rfl
@[simp] theorem State.resetInput_pending (s : State) : (s.resetInput).pending = none := rfl
@[simp] theorem State.resetInput_rdata (s : State) : (s.resetInput).rdata = 0 := rfl
@[simp] theorem State.resetInput_moves (s : State) : (s.resetInput).moves = s.moves := rfl
@[simp] theorem State.resetInput_resets (s : State) : (s.resetInput).resets = s.resets + 1 := rfl

/-- What P and S held before the reset input shows in P and S after it, and nowhere else. -/
theorem State.resetInput_of_bf (b : BlowfishState) (s : State) :
    ({ s with bf := b } : State).resetInput =
      { s.resetInput with bf := residueState s.resets ({ s with bf := b } : State).heldWords } := by
  unfold State.resetInput
  rfl

/-! R44: BUSY after each of them. -/

@[simp] theorem State.accept_busy (v : Word) (s : State) : (s.accept v).busy = true := rfl
@[simp] theorem State.completeWith_busy (e : BitVec 4) (s : State) : (s.completeWith e).busy = false := rfl
@[simp] theorem State.complete_busy (s : State) : s.complete.busy = false := rfl
@[simp] theorem State.raiseError_busy (e : CmdError) (s : State) : (s.raiseError e).busy = false := rfl
@[simp] theorem State.dropWrite_busy (s : State) : s.dropWrite.busy = s.busy := rfl
@[simp] theorem State.writeCtrl_busy (v : Word) (s : State) : (s.writeCtrl v).busy = s.busy := rfl
@[simp] theorem State.clearSticky_busy (v : Word) (s : State) : (s.clearSticky v).busy = s.busy := rfl
@[simp] theorem State.resetInput_busy (s : State) : s.resetInput.busy = false := rfl

/-- R44: BUSY = 1 exactly when a command is pending. -/
theorem State.busy_iff (s : State) : s.busy = true ↔ ∃ v, s.pending = some v := by
  simp [State.busy, Option.isSome_iff_exists]

theorem State.busy_of_pending {s : State} {v : Word} (h : s.pending = some v) : s.busy = true := by
  simp [State.busy, h]

theorem State.not_busy_iff (s : State) : s.busy = false ↔ s.pending = none := by
  simp [State.busy]

end Sys2Proof.Machine
end

