-- ==== Sys2Proof/Laws/Ops.lean ====
section
/-! SUPPORT. Laws/Ops.lean: for each shared operation, what it can do, said once. -/

namespace Sys2Proof.Machine

open Sys2Proof

/-! The checks of a command (60_exceptions.md R200, R210). -/

theorem keylenLegal_iff (n : BitVec 8) : keylenLegal n = true ↔ 1 ≤ n.toNat ∧ n.toNat ≤ 72 := by
  simp [keylenLegal]

theorem costLegal_iff (n : BitVec 8) : costLegal n = true ↔ 4 ≤ n.toNat ∧ n.toNat ≤ 31 := by
  simp [costLegal]

theorem checkSchedule_none_iff (s : State) : s.checkSchedule = none ↔ s.sv = true := by
  simp [State.checkSchedule]

theorem checkKeylen_none_iff (s : State) : s.checkKeylen = none ↔ keylenLegal s.keylen = true := by
  simp [State.checkKeylen]

theorem checkSetup_none_iff (s : State) : s.checkSetup = none ↔ costLegal s.cost = true ∧ keylenLegal s.keylen = true := by
  by_cases h : costLegal s.cost = true <;> simp [State.checkSetup, checkKeylen_none_iff, h]

theorem checkExpandKey_none_iff (s : State) :
    s.checkExpandKey = none ↔ s.sv = true ∧ keylenLegal s.keylen = true := by
  by_cases h : s.sv = true <;> simp [State.checkExpandKey, checkKeylen_none_iff, h]

/-! Ending a command (43_control.md R163, R164). -/

@[simp] theorem endCommand_none (s : State) (effect : State → State) : s.endCommand none effect = (effect s).complete := rfl

@[simp] theorem endCommand_some (s : State) (e : CmdError) (effect : State → State) :
    s.endCommand (some e) effect = s.raiseError e := rfl

/-- A command ends in one of two ways: an error raised, or its effect completed. -/
theorem endCommand_cases (s : State) (check : Option CmdError) (effect : State → State) :
    (∃ e, check = some e ∧ s.endCommand check effect = s.raiseError e) ∨
      (check = none ∧ s.endCommand check effect = (effect s).complete) := by
  cases check with
  | none => exact .inr ⟨rfl, rfl⟩
  | some e => exact .inl ⟨e, rfl, rfl⟩

/-- R200: no error has code 0. -/
@[simp] theorem CmdError.code_ne_zero (e : CmdError) : ¬ e.code = 0#4 := by cases e <;> decide

@[simp] theorem endCommand_pending (s : State) (check : Option CmdError) (effect : State → State) :
    (s.endCommand check effect).pending = none := by cases check <;> rfl

@[simp] theorem endCommand_done (s : State) (check : Option CmdError) (effect : State → State) :
    (s.endCommand check effect).done = true := by cases check <;> rfl

theorem endCommand_err (s : State) (check : Option CmdError) (effect : State → State) :
    (s.endCommand check effect).err = ((s.endCommand check effect).ecode != 0) := by cases check <;> rfl

/-- The error code of a command says which check failed. -/
theorem endCommand_ecode (s : State) (check : Option CmdError) (effect : State → State) :
    (s.endCommand check effect).ecode = match check with | some e => e.code | none => 0 := by cases check <;> rfl

/-! Reading a register (20_memory.md R60). -/

/-- R38: what a read returns while BUSY. -/
theorem readReg_busy {s : State} (rb : Bool) (r : Reg) (h : s.busy = true) (hr : r.answeredWhileBusy = false) :
    s.readReg rb r = 0 := by simp [State.readReg, h, hr]

/-- A read depends on nothing but the state's registers: not on rdata. -/
@[simp] theorem readReg_rdata (rb : Bool) (s : State) (r : Reg) (v : Word) :
    ({ s with rdata := v } : State).readReg rb r = s.readReg rb r := rfl

/-! Writing a register (20_memory.md R61). -/

/-- R39: a dropped write. -/
theorem writeReg_dropped {s : State} (v : Word) {r : Reg} (h : s.busy = true) (hr : r.droppedWhileBusy = true) :
    s.writeReg v r = s.dropWrite := by simp [State.writeReg, h, hr]

/-- R61: everything a write can do. -/
theorem writeReg_cases (v : Word) (s : State) (r : Reg) :
    s.writeReg v r = s ∨ (s.busy = true ∧ s.writeReg v r = s.dropWrite) ∨
      (r = .ctrl ∧ s.writeReg v r = s.writeCtrl v) ∨ (r = .status ∧ s.writeReg v r = s.clearSticky v) ∨
      (s.busy = false ∧
        ((r = .cmd ∧ s.writeReg v r = s.accept v) ∨
         (r = .cost ∧ s.writeReg v r = { s with cost := v.setWidth 8 }) ∨
         (r = .keylen ∧ s.writeReg v r = { s with keylen := v.setWidth 8 }) ∨
         (∃ k, r = .salt k ∧ s.writeReg v r = { s with salt := s.salt.set k v }) ∨
         (r = .dataL ∧ s.writeReg v r = { s with dataL := v }) ∨
         (r = .dataR ∧ s.writeReg v r = { s with dataR := v }) ∨
         (∃ k, r = .key k ∧ s.writeReg v r = { s with key := s.key.set k v }))) := by
  cases h : s.busy <;> cases r <;> simp [State.writeReg, h, Reg.droppedWhileBusy]

/-- A write touches neither P nor S nor SV nor CT nor the model's own fields. -/
theorem writeReg_frame (v : Word) (s : State) (r : Reg) :
    (s.writeReg v r).bf = s.bf ∧ (s.writeReg v r).sv = s.sv ∧ (s.writeReg v r).ct = s.ct ∧
      (s.writeReg v r).rdata = s.rdata ∧ (s.writeReg v r).moves = s.moves ∧ (s.writeReg v r).resets = s.resets := by
  cases h : s.busy <;> cases r <;> simp [State.writeReg, h, Reg.droppedWhileBusy]

/-! The meanings, each in the terms of the shared operations. -/

theorem exec_rd (addr : BitVec 14) (s : State) :
    exec (.rd addr) s = .next { s with rdata := s.readReg Config.secretReadback (regAt addr) } := rfl

theorem exec_wr (addr : BitVec 14) (v : Word) (s : State) : exec (.wr addr v) s = .next (s.writeReg v (regAt addr)) := rfl

/-- R163: a command's meaning is the end of a command: some check, then some effect that leaves alone what no command writes (R166). -/
theorem exec_command (i : Instr) (s : State) (hi : i.isCommand = true) :
    ∃ check effect, exec i s = .next (s.endCommand check effect) ∧
      (∀ s : State, (effect s).ie = s.ie ∧ (effect s).bwe = s.bwe ∧ (effect s).rdata = s.rdata ∧
        (effect s).moves = s.moves ∧ (effect s).resets = s.resets) := by
  cases i <;> first
    | exact ⟨_, _, rfl, fun _ => ⟨rfl, rfl, rfl, rfl, rfl⟩⟩
    | cases hi

/-- Every instruction runs in every state (R69, R163). -/
theorem exec_next (i : Instr) (s : State) : ∃ t, exec i s = .next t := by
  cases i <;> exact ⟨_, rfl⟩

end Sys2Proof.Machine
end

