-- ==== Sys2Proof/Laws/Commands.lean ====
section
/-! SUPPORT. Laws/Commands.lean: each command's meaning as an equation over the shared operations, and the outcome of each check, so that
no later proof unfolds a meaning (unfolding one by definitional equality makes Lean unfold the constant store too). -/

namespace Sys2Proof.Machine

open Sys2Proof

theorem exec_nop (s : State) : exec .nop s = .next s.complete := by rw [exec, execNop, endCommand_none]

theorem exec_init (s : State) : exec .init s = .next { s with bf := piState, sv := true }.complete := by
  rw [exec, execInit, endCommand_none]

theorem exec_expand0key (s : State) :
    exec .expand0key s = .next (s.endCommand s.checkExpandKey fun s => { s with bf := expandKey false s.salt s.keyOperand s.bf }) := by
  rw [exec, execExpand0key]

theorem exec_expandkey (s : State) :
    exec .expandkey s = .next (s.endCommand s.checkExpandKey fun s => { s with bf := expandKey true s.salt s.keyOperand s.bf }) := by
  rw [exec, execExpandkey]

theorem exec_expand0salt (s : State) :
    exec .expand0salt s = .next (s.endCommand s.checkSchedule fun s => { s with bf := expandKey false s.salt s.saltOperand s.bf }) := by
  rw [exec, execExpand0salt]

theorem exec_expandsalt (s : State) :
    exec .expandsalt s = .next (s.endCommand s.checkSchedule fun s => { s with bf := expandKey true s.salt s.saltOperand s.bf }) := by
  rw [exec, execExpandsalt]

theorem exec_encrypt (s : State) :
    exec .encrypt s = .next (s.endCommand s.checkSchedule fun s =>
      { s with dataL := (encipher s.bf (s.dataL, s.dataR)).1, dataR := (encipher s.bf (s.dataL, s.dataR)).2 }) := by
  rw [exec, execEncrypt]

theorem exec_setup (s : State) :
    exec .setup s = .next (s.endCommand s.checkSetup fun s =>
      { s with bf := eksSetup s.cost.toNat s.salt s.keyOperand, sv := true }) := by
  rw [exec, execSetup]

theorem exec_ecb64 (s : State) :
    exec .ecb64 s = .next (s.endCommand s.checkSchedule fun s => { s with ct := ecb64core s.bf }) := by
  rw [exec, execEcb64]

theorem exec_crypt (s : State) :
    exec .crypt s = .next (s.endCommand s.checkSetup fun s =>
      { s with
        bf := eksSetup s.cost.toNat s.salt s.keyOperand
        sv := true
        ct := ecb64core (eksSetup s.cost.toNat s.salt s.keyOperand) }) := by
  rw [exec, execCrypt]

/-! The checks that fail (60_exceptions.md R200). -/

theorem keylenLegal_false {n : BitVec 8} (h : n.toNat < 1 ∨ 72 < n.toNat) : keylenLegal n = false := by
  rw [keylenLegal, decide_eq_false_iff_not]; omega

theorem costLegal_false {n : BitVec 8} (h : n.toNat < 4 ∨ 31 < n.toNat) : costLegal n = false := by
  rw [costLegal, decide_eq_false_iff_not]; omega

theorem checkSchedule_failed {s : State} (h : s.sv = false) : s.checkSchedule = some .stateNotInitialised := by
  simp [State.checkSchedule, h]

theorem checkExpandKey_uninitialised {s : State} (h : s.sv = false) : s.checkExpandKey = some .stateNotInitialised := by
  simp [State.checkExpandKey, h]

theorem checkExpandKey_keylen {s : State} (h : s.sv = true) (hk : s.keylen.toNat < 1 ∨ 72 < s.keylen.toNat) :
    s.checkExpandKey = some .keyLengthInvalid := by
  simp [State.checkExpandKey, State.checkKeylen, h, keylenLegal_false hk]

theorem checkSetup_cost {s : State} (h : s.cost.toNat < 4 ∨ 31 < s.cost.toNat) : s.checkSetup = some .costOutOfRange := by
  simp [State.checkSetup, costLegal_false h]

theorem checkSetup_keylen {s : State} (hc : costLegal s.cost = true) (hk : s.keylen.toNat < 1 ∨ 72 < s.keylen.toNat) :
    s.checkSetup = some .keyLengthInvalid := by
  simp [State.checkSetup, State.checkKeylen, hc, keylenLegal_false hk]

end Sys2Proof.Machine
end

