-- ==== Sys2Proof/Laws/EksBlowfish.lean ====
section
/-! SUPPORT. Laws/EksBlowfish.lean: what the operations on the working state of an ExpandKey do, field by field. -/

namespace Sys2Proof.Machine

open Sys2Proof

@[simp] theorem foldKey_p (k : List Byte) (b : BlowfishState) (i : Nat) (h : i < 18) :
    (foldKey k b).p[i] = b.p[i] ^^^ keyWord k i := by simp [foldKey]

@[simp] theorem foldKey_s (k : List Byte) (b : BlowfishState) : (foldKey k b).s = b.s := rfl

@[simp] theorem Work.step_bf (sx : Bool) (salt : Vector Word 4) (w : Work) : (w.step sx salt).bf = w.bf := rfl

@[simp] theorem Work.step_h (sx : Bool) (salt : Vector Word 4) (w : Work) : (w.step sx salt).h = !w.h := rfl

theorem Work.step_b (sx : Bool) (salt : Vector Word 4) (w : Work) :
    (w.step sx salt).b =
      encipher w.bf (if sx then (w.b.1 ^^^ (saltHalf salt w.h).1, w.b.2 ^^^ (saltHalf salt w.h).2) else w.b) := rfl

@[simp] theorem Work.storeP_b (i : Nat) (h : i < 9) (w : Work) : (w.storeP i h).b = w.b := rfl

@[simp] theorem Work.storeP_h (i : Nat) (h : i < 9) (w : Work) : (w.storeP i h).h = w.h := rfl

@[simp] theorem Work.storeP_s (i : Nat) (h : i < 9) (w : Work) : (w.storeP i h).bf.s = w.bf.s := rfl

/-- R122 step 3: the words of P after one store. -/
theorem Work.storeP_p (i : Nat) (hi : i < 9) (w : Work) (n : Nat) (hn : n < 18) :
    (w.storeP i hi).bf.p[n] = if n = 2 * i then w.b.1 else if n = 2 * i + 1 then w.b.2 else w.bf.p[n] := by
  simp only [Work.storeP, Vector.getElem_set]
  split_ifs <;> first | rfl | omega

@[simp] theorem Work.storeS_b (j : Nat) (hj : j < 4) (i : Nat) (hi : i < 128) (w : Work) : (w.storeS j hj i hi).b = w.b := rfl

@[simp] theorem Work.storeS_h (j : Nat) (hj : j < 4) (i : Nat) (hi : i < 128) (w : Work) : (w.storeS j hj i hi).h = w.h := rfl

@[simp] theorem Work.storeS_p (j : Nat) (hj : j < 4) (i : Nat) (hi : i < 128) (w : Work) : (w.storeS j hj i hi).bf.p = w.bf.p := rfl

/-- R122 step 4: the words of S after one store. -/
theorem Work.storeS_s (j : Nat) (hj : j < 4) (i : Nat) (hi : i < 128) (w : Work) (a n : Nat) (ha : a < 4) (hn : n < 256) :
    (w.storeS j hj i hi).bf.s[a][n] =
      if a = j ∧ n = 2 * i then w.b.1 else if a = j ∧ n = 2 * i + 1 then w.b.2 else w.bf.s[a][n] := by
  by_cases h : a = j
  · subst h
    simp only [Work.storeS, Vector.getElem_set_self, Vector.getElem_set, true_and]
    split_ifs <;> first | rfl | omega
  · simp [Work.storeS, h, Ne.symm h]

theorem eksSetup_eq (cost : Nat) (salt : Vector Word 4) (k : List Byte) :
    eksSetup cost salt k = Nat.iterate (rekey salt k) (2 ^ cost) (expandKey true salt k piState) := by rw [eksSetup]

end Sys2Proof.Machine
end

