-- ==== Sys2Proof/Laws/PerInstr.lean ====
section
/-! SUPPORT. Laws/PerInstr.lean: statements about every instruction as it is written, one lemma per constructor. -/

namespace Sys2Proof.Laws.EncodedWidth

open Sys2Proof

/-- R80, R84: the encoding fits its row of the opcode table, a command's in 32 bits and a transaction's in 47 of 48, and its width tells
the two formats apart. -/
def Statement (i : Instr) : Prop :=
  i.wellFormed = true ∧
    ((i.isCommand = true ∧ (encode i).nbits = 32 ∧ (encode i).bits < 2 ^ 32) ∨
     (i.isCommand = false ∧ (encode i).nbits = 48 ∧ (encode i).bits < 2 ^ 47))

/-- A command's word has 32 bits. -/
theorem of_command {i : Instr} {v : Word} (hw : i.wellFormed = true) (hc : i.isCommand = true) (h : encode i = .command v) :
    Statement i := by
  refine ⟨hw, .inl ⟨hc, ?_, ?_⟩⟩ <;> rw [h]
  · rfl
  · exact v.isLt

/-- A packed transaction has 47 bits. -/
theorem of_bus {i : Instr} {t : BitVec 47} (hw : i.wellFormed = true) (hc : i.isCommand = false) (h : encode i = .bus t) :
    Statement i := by
  refine ⟨hw, .inr ⟨hc, ?_, ?_⟩⟩ <;> rw [h]
  · rfl
  · exact t.isLt

theorem nop : Statement .nop := of_command rfl rfl rfl
theorem init : Statement .init := of_command rfl rfl rfl
theorem expand0key : Statement .expand0key := of_command rfl rfl rfl
theorem expandkey : Statement .expandkey := of_command rfl rfl rfl
theorem expand0salt : Statement .expand0salt := of_command rfl rfl rfl
theorem expandsalt : Statement .expandsalt := of_command rfl rfl rfl
theorem encrypt : Statement .encrypt := of_command rfl rfl rfl
theorem setup : Statement .setup := of_command rfl rfl rfl
theorem ecb64 : Statement .ecb64 := of_command rfl rfl rfl
theorem crypt : Statement .crypt := of_command rfl rfl rfl
theorem zeroize : Statement .zeroize := of_command rfl rfl rfl
theorem rd (addr : BitVec 14) : Statement (.rd addr) := of_bus rfl rfl rfl
theorem wr (addr : BitVec 14) (wdata : Word) : Statement (.wr addr wdata) := of_bus rfl rfl rfl

end Sys2Proof.Laws.EncodedWidth
end

