-- ==== Sys2Proof/Laws/PiRom.lean ====
section
/-! SUPPORT. Laws/PiRom.lean: where each constant word stands in the store, so that no later proof evaluates the store word by word. -/

namespace Sys2Proof.Machine

theorem piRomP_length : piRomP.length = 18 := by decide +kernel
theorem piRomS0_length : piRomS0.length = 256 := by decide +kernel
theorem piRomS1_length : piRomS1.length = 256 := by decide +kernel
theorem piRomS2_length : piRomS2.length = 256 := by decide +kernel
theorem piRomS3_length : piRomS3.length = 256 := by decide +kernel

/-- R180: the list of the store that a position lies in. -/
theorem piRom_getD_append (front back : List Nat) {m k n : Nat} (hm : front.length = m) (hk : k = m + n) :
    (front ++ back).getD k 0 = back.getD n 0 := by
  subst hm hk
  rw [List.getD_append_right _ _ _ _ (by omega), Nat.add_sub_cancel_left]

theorem piRom_getD_s0 (n : Nat) (h : n < 256) : piRom.getD (18 + n) 0 = piRomS0.getD n 0 := by
  have hl := piRomS0_length
  rw [piRom, List.append_assoc, List.append_assoc, List.append_assoc, piRom_getD_append _ _ piRomP_length rfl,
    List.getD_append _ _ _ _ (by omega)]

theorem piRom_getD_s1 (n : Nat) (h : n < 256) : piRom.getD (274 + n) 0 = piRomS1.getD n 0 := by
  have hl := piRomS1_length
  rw [piRom, List.append_assoc, List.append_assoc, List.append_assoc,
    piRom_getD_append _ _ piRomP_length (n := 256 + n) (by omega), piRom_getD_append _ _ piRomS0_length rfl,
    List.getD_append _ _ _ _ (by omega)]

theorem piRom_getD_s2 (n : Nat) (h : n < 256) : piRom.getD (530 + n) 0 = piRomS2.getD n 0 := by
  have hl := piRomS2_length
  rw [piRom, List.append_assoc, List.append_assoc, List.append_assoc,
    piRom_getD_append _ _ piRomP_length (n := 512 + n) (by omega), piRom_getD_append _ _ piRomS0_length (n := 256 + n) (by omega),
    piRom_getD_append _ _ piRomS1_length rfl, List.getD_append _ _ _ _ (by omega)]

theorem piRom_getD_s3 (n : Nat) : piRom.getD (786 + n) 0 = piRomS3.getD n 0 := by
  rw [piRom, List.append_assoc, List.append_assoc, List.append_assoc,
    piRom_getD_append _ _ piRomP_length (n := 768 + n) (by omega), piRom_getD_append _ _ piRomS0_length (n := 512 + n) (by omega),
    piRom_getD_append _ _ piRomS1_length (n := 256 + n) (by omega), piRom_getD_append _ _ piRomS2_length rfl]

/-- A box built from a list of the store reads as the list. -/
theorem box_getElem (l : List Nat) {m : Nat} (hm : (l.map (BitVec.ofNat 32)).toArray.size = m) (n : Nat) (h : n < m) :
    (⟨(l.map (BitVec.ofNat 32)).toArray, hm⟩ : Vector (BitVec 32) m)[n] = BitVec.ofNat 32 (l.getD n 0) := by
  have : n < l.length := by simp at hm; omega
  simp [List.getD_eq_getElem?_getD, this]

/-! R182 to R185: the words of each box of INIT. -/

theorem piS0_getElem (n : Nat) (h : n < 256) : piState.s[0][n] = piw (18 + n) := by
  rw [piw, piRom_getD_s0 n h]; exact box_getElem piRomS0 _ n h

theorem piS1_getElem (n : Nat) (h : n < 256) : piState.s[1][n] = piw (274 + n) := by
  rw [piw, piRom_getD_s1 n h]; exact box_getElem piRomS1 _ n h

theorem piS2_getElem (n : Nat) (h : n < 256) : piState.s[2][n] = piw (530 + n) := by
  rw [piw, piRom_getD_s2 n h]; exact box_getElem piRomS2 _ n h

theorem piS3_getElem (n : Nat) (h : n < 256) : piState.s[3][n] = piw (786 + n) := by
  rw [piw, piRom_getD_s3 n]; exact box_getElem piRomS3 _ n h

end Sys2Proof.Machine
end

