-- ==== Sys2Proof/Laws/Registers.lean ====
section
/-! SUPPORT. Laws/Registers.lean: the register map, one lemma per row of 10_state.md R21, so that no later proof unfolds it. -/

namespace Sys2Proof.Machine

open Sys2Proof

/-- R60: the offset, in terms of the address. -/
theorem offsetOf_eq (addr : BitVec 14) : offsetOf addr = addr.toNat / 4 * 4 := by
  have := addr.isLt
  simp [offsetOf, Nat.shiftRight_eq_div_pow]
  omega

theorem regAt_eq {addr : BitVec 14} {n : Nat} (h : addr.toNat / 4 * 4 = n) : regAt addr = regAtOffset n := by
  rw [regAt, offsetOf_eq, h]

theorem regAtOffset_id {n : Nat} (h : n = 0x000) : regAtOffset n = .id := by
  unfold regAtOffset
  exact if_pos h

theorem regAtOffset_version {n : Nat} (h : n = 0x004) : regAtOffset n = .version := by
  unfold regAtOffset
  rw [if_neg (by omega)]
  exact if_pos h

theorem regAtOffset_ctrl {n : Nat} (h : n = 0x008) : regAtOffset n = .ctrl := by
  unfold regAtOffset
  iterate 2 rw [if_neg (by omega)]
  exact if_pos h

theorem regAtOffset_status {n : Nat} (h : n = 0x00C) : regAtOffset n = .status := by
  unfold regAtOffset
  iterate 3 rw [if_neg (by omega)]
  exact if_pos h

theorem regAtOffset_cmd {n : Nat} (h : n = 0x010) : regAtOffset n = .cmd := by
  unfold regAtOffset
  iterate 4 rw [if_neg (by omega)]
  exact if_pos h

theorem regAtOffset_cost {n : Nat} (h : n = 0x014) : regAtOffset n = .cost := by
  unfold regAtOffset
  iterate 5 rw [if_neg (by omega)]
  exact if_pos h

theorem regAtOffset_keylen {n : Nat} (h : n = 0x018) : regAtOffset n = .keylen := by
  unfold regAtOffset
  iterate 6 rw [if_neg (by omega)]
  exact if_pos h

theorem regAtOffset_salt {n : Nat} (h : 0x020 ≤ n ∧ n ≤ 0x02C) : regAtOffset n = .salt (Fin.ofNat 4 ((n - 0x020) / 4)) := by
  unfold regAtOffset
  iterate 7 rw [if_neg (by omega)]
  exact if_pos h

theorem regAtOffset_dataL {n : Nat} (h : n = 0x030) : regAtOffset n = .dataL := by
  unfold regAtOffset
  iterate 8 rw [if_neg (by omega)]
  exact if_pos h

theorem regAtOffset_dataR {n : Nat} (h : n = 0x034) : regAtOffset n = .dataR := by
  unfold regAtOffset
  iterate 9 rw [if_neg (by omega)]
  exact if_pos h

theorem regAtOffset_ct {n : Nat} (h : 0x040 ≤ n ∧ n ≤ 0x054) : regAtOffset n = .ct (Fin.ofNat 6 ((n - 0x040) / 4)) := by
  unfold regAtOffset
  iterate 10 rw [if_neg (by omega)]
  exact if_pos h

theorem regAtOffset_key {n : Nat} (h : 0x080 ≤ n ∧ n ≤ 0x0C4) : regAtOffset n = .key (Fin.ofNat 18 ((n - 0x080) / 4)) := by
  unfold regAtOffset
  iterate 11 rw [if_neg (by omega)]
  exact if_pos h

theorem regAtOffset_pwin {n : Nat} (h : 0x1000 ≤ n ∧ n ≤ 0x1044) : regAtOffset n = .pwin (Fin.ofNat 18 ((n - 0x1000) / 4)) := by
  unfold regAtOffset
  iterate 12 rw [if_neg (by omega)]
  exact if_pos h

theorem regAtOffset_swin {n : Nat} (h : 0x2000 ≤ n ∧ n ≤ 0x2FFC) : regAtOffset n = .swin (Fin.ofNat 4 ((n - 0x2000) / 4 / 256)) (Fin.ofNat 256 ((n - 0x2000) / 4 % 256)) := by
  unfold regAtOffset
  iterate 13 rw [if_neg (by omega)]
  exact if_pos h

/-- The numbers that R21 names. -/
def offsetNamed (n : Nat) : Prop :=
  n = 0x000 ∨ n = 0x004 ∨ n = 0x008 ∨ n = 0x00C ∨ n = 0x010 ∨ n = 0x014 ∨ n = 0x018 ∨ (0x020 ≤ n ∧ n ≤ 0x02C) ∨ n = 0x030 ∨ n = 0x034 ∨
    (0x040 ≤ n ∧ n ≤ 0x054) ∨ (0x080 ≤ n ∧ n ≤ 0x0C4) ∨ (0x1000 ≤ n ∧ n ≤ 0x1044) ∨ (0x2000 ≤ n ∧ n ≤ 0x2FFC)

/-- R35: any other offset is reserved. -/
theorem regAtOffset_reserved {n : Nat} (h : ¬ offsetNamed n) : regAtOffset n = .reserved := by
  unfold offsetNamed at h
  unfold regAtOffset
  iterate 14 rw [if_neg (by omega)]

/-- The whole map, read backwards: which offset a register stands at. -/
theorem regAtOffset_inv (n : Nat) :
    (offsetNamed n ∧ regAtOffset n ≠ .reserved ∧
      (regAtOffset n = .ctrl → n = 0x008) ∧ (regAtOffset n = .status → n = 0x00C) ∧ (regAtOffset n = .cmd → n = 0x010)) ∨
    (¬ offsetNamed n ∧ regAtOffset n = .reserved) := by
  by_cases h : offsetNamed n
  · refine .inl ⟨h, ?_⟩
    unfold offsetNamed at h
    rcases h with h | h | h | h | h | h | h | h | h | h | h | h | h | h <;> first
      | (rw [regAtOffset_id h]; simp [h])
      | (rw [regAtOffset_version h]; simp [h])
      | (rw [regAtOffset_ctrl h]; simp [h])
      | (rw [regAtOffset_status h]; simp [h])
      | (rw [regAtOffset_cmd h]; simp [h])
      | (rw [regAtOffset_cost h]; simp [h])
      | (rw [regAtOffset_keylen h]; simp [h])
      | (rw [regAtOffset_salt h]; simp)
      | (rw [regAtOffset_dataL h]; simp [h])
      | (rw [regAtOffset_dataR h]; simp [h])
      | (rw [regAtOffset_ct h]; simp)
      | (rw [regAtOffset_key h]; simp)
      | (rw [regAtOffset_pwin h]; simp)
      | (rw [regAtOffset_swin h]; simp)
  · exact .inr ⟨h, regAtOffset_reserved h⟩

end Sys2Proof.Machine
end

