-- ==== Sys2Proof/Laws/Step.lean ====
section
/-! SUPPORT. Laws/Step.lean: what one step can do, said once. -/

namespace Sys2Proof.Machine

open Sys2Proof

theorem engineStep_idle {s : State} (h : s.pending = none) : engineStep s = .next s := by simp [engineStep, h]

theorem engineStep_ok {s : State} {v : Word} {i : Instr} (h : s.pending = some v) (hd : decodeCommand v = .ok i) :
    engineStep s = exec i s := by simp [engineStep, h, hd]

theorem engineStep_illegal {s : State} {v : Word} {e : DecodeError} (h : s.pending = some v)
    (hd : decodeCommand v = .error e) : engineStep s = .next (s.raiseError .illegalCommand) := by
  simp [engineStep, h, hd, completeIllegal]

/-- R87: only commands are decoded from a command word. -/
theorem decodeCommand_isCommand {v : Word} {i : Instr} (h : decodeCommand v = .ok i) : i.isCommand = true := by
  unfold decodeCommand at h
  split at h
  · cases h
  · split at h
    · cases h; cases sxField v <;> cases ksField v <;> rfl
    · split at h
      · cases h
      · unfold commandOfOp at h
        split at h <;> cases h <;> rfl

/-- R163: the engine's turn always gives a next state: the same one, an illegal word's completion, or a command's meaning. -/
theorem engineStep_cases (s : State) :
    (s.pending = none ∧ engineStep s = .next s) ∨
      (∃ v e, s.pending = some v ∧ decodeCommand v = .error e ∧ engineStep s = .next (s.raiseError .illegalCommand)) ∨
      (∃ v i, s.pending = some v ∧ decodeCommand v = .ok i ∧ i.isCommand = true ∧ engineStep s = exec i s) := by
  cases hp : s.pending with
  | none => exact .inl ⟨rfl, engineStep_idle hp⟩
  | some v =>
    cases hd : decodeCommand v with
    | error e => exact .inr (.inl ⟨v, e, rfl, hd, engineStep_illegal hp hd⟩)
    | ok i => exact .inr (.inr ⟨v, i, rfl, hd, decodeCommand_isCommand hd, engineStep_ok hp hd⟩)

/-- R84: only transactions are decoded from the bus. -/
theorem decodeBus_cases (t : BitVec 47) :
    (∃ addr, decodeBus t = .rd addr) ∨ (∃ addr v, decodeBus t = .wr addr v) := by
  unfold decodeBus
  split
  · exact .inr ⟨_, _, rfl⟩
  · exact .inl ⟨_, rfl⟩

@[simp] theorem step_nil {s : State} (h : s.moves = []) : step s = engineStep s := by simp [step, advance, h]

@[simp] theorem step_cons {s : State} {m : Move} {ms : List Move} (h : s.moves = m :: ms) :
    step s = serveMove m { s with moves := ms } := by simp [step, advance, h]

/-- What one step that answers a next state has done. -/
theorem step_cases {s t : State} (h : step s = .next t) :
    (s.moves = [] ∧ engineStep s = .next t) ∨
      (∃ ms, s.moves = .engine :: ms ∧ engineStep { s with moves := ms } = .next t) ∨
      (∃ w ms, s.moves = .bus w :: ms ∧ exec (decodeBus w) { s with moves := ms } = .next t) ∨
      (∃ ms, s.moves = .reset :: ms ∧ t = ({ s with moves := ms } : State).resetInput) := by
  cases hm : s.moves with
  | nil => exact .inl ⟨rfl, step_nil hm ▸ h⟩
  | cons m ms =>
    rw [step_cons hm] at h
    cases m with
    | bus w => exact .inr (.inr (.inl ⟨w, ms, rfl, h⟩))
    | narrowBus z w => cases h
    | engine => exact .inr (.inl ⟨ms, rfl, h⟩)
    | reset => exact .inr (.inr (.inr ⟨ms, rfl, by cases h; rfl⟩))

end Sys2Proof.Machine
end

