-- ==== Sys2Proof/Machine/HostAsm.lean ====
section
/-! DEFINITION. Machine/HostAsm.lean: the host assembly of 30_encoding.md R90 and R91, each line as the events it stands for,
and the host procedure of 70_reset_and_hazards.md R235. -/

namespace Sys2Proof.Machine.HostAsm

open Sys2Proof

/-- R90: `WR <reg>, <value>`. -/
def wr (r : Reg) (v : Word) : Move := .bus (busWord true r.offset v)

/-- R90: `RD <reg>`. -/
def rd (r : Reg) : Move := .bus (busWord false r.offset 0)

/-- R91: `CMD <mnemonic>`, a write of the command's word to CMD; a bus transaction is no command and has no such line. -/
def cmd (i : Instr) : List Move :=
  match encode i with
  | .command v => [wr .cmd v]
  | .bus _ => []

/-- R91: `POLL`, as its last turn: the completion step, then the read of STATUS with BUSY = 0. -/
def poll : List Move := [.engine, rd .status]

/-- R91: `CLEAR`. -/
def clear : Move := wr .status 0x0000000E

/-- R91: word `k` of a byte string, "bytes past n taken as 0". -/
def packWord (bs : List Byte) (k : Nat) : Word :=
  be32 (bs.getD (4 * k) 0) (bs.getD (4 * k + 1) 0) (bs.getD (4 * k + 2) 0) (bs.getD (4 * k + 3) 0)

/-- R91: `LOADKEY b0 .. b(n-1)`, for `1 ≤ n ≤ 72`. -/
def loadKey (bs : List Byte) : List Move :=
  (List.finRange 18).map (fun k => wr (.key k) (packWord bs k.val)) ++ [wr .keylen (BitVec.ofNat 32 bs.length)]

/-- R91: `LOADSALT b0 .. b15`. -/
def loadSalt (bs : List Byte) : List Move := (List.finRange 4).map fun k => wr (.salt k) (packWord bs k.val)

/-- R91: the transaction of `EXPECT <reg> = <value>`. -/
def expectRead (r : Reg) : Move := rd r

/-- R91: the claim of `EXPECT <reg> = <value>`, of the state after its read. -/
def expectHolds (v : Word) (s : State) : Bool := s.rdata == v

/-- R91: `REPEAT <n>` ... `END`. -/
def repeated (n : Nat) (lines : List Move) : List Move := (List.replicate n lines).flatten

/-- R235: the host procedure for one digest, the optional ZEROIZE included. -/
def digestProcedure (key salt : List Byte) (cost : Word) : List Move :=
  loadKey key ++ loadSalt salt ++ [wr .cost cost] ++ cmd .crypt ++ poll ++ [rd .status] ++
    (List.finRange 6).map (fun k => rd (.ct k)) ++ cmd .zeroize ++ poll

end Sys2Proof.Machine.HostAsm
end

