-- ==== Sys2Proof/Tests/Slice0.lean ====
section
/-! SUPPORT. Tests/Slice0.lean: small tests, whose expected results are those of spec/95_test_vectors.md (the section named with each) or
of the rule named, and the witnesses that the hypotheses of the statements can be met. -/

namespace Sys2Proof.Tests

open Sys2Proof Sys2Proof.Machine

/-- A field of the next state, `none` where there is none. -/
def look {α : Type} (o : Host.Outcome State Fault Refusal) (f : State → α) : Option α :=
  match o with
  | .next t => some (f t)
  | .fault _ => none
  | .refused _ => none

/-- "After INIT": the reset state with the constants loaded. -/
def afterInit : State := { State.reset with bf := piState, sv := true }

/-- The reset state with a command in progress. -/
def busy (v : Word) : State := State.reset.accept v

/-- SALT `00 01 ... 0F` of 95_test_vectors.md L2.5. -/
def salt16 : Vector Word 4 := #v[0x00010203, 0x04050607, 0x08090A0B, 0x0C0D0E0F]

/-- The operands of an EXPAND row of L2.5: key `00`, KEYLEN 1. -/
def expandRow : State := { afterInit with keylen := 1, salt := salt16 }

/-! WellFormed: each check refuses an ill-formed term (R62, R67, R70). -/

theorem test_byte_access_ill_formed : PlatformAccess.wellFormedAt 0x4000 ⟨false, .narrow .byte, 0x4000, 0⟩ = false := by decide
theorem test_half_access_ill_formed : PlatformAccess.wellFormedAt 0x4000 ⟨true, .narrow .half, 0x4010, 1⟩ = false := by decide
theorem test_access_below_window_ill_formed : PlatformAccess.wellFormedAt 0x4000 ⟨false, .word, 0x3FFC, 0⟩ = false := by decide
theorem test_access_above_window_ill_formed : PlatformAccess.wellFormedAt 0x4000 ⟨false, .word, 0x8000, 0⟩ = false := by decide
theorem test_word_access_well_formed : PlatformAccess.wellFormedAt 0x4000 ⟨true, .word, 0x7FFF, 0⟩ = true := by decide

/-! Decode: a word for every constructor, from the tables of R84 and R86, and illegal words of L2.2. -/

theorem test_decode_nop : decodeCommand 0b00000000000000000000000000000000 = .ok .nop := by decide
theorem test_decode_init : decodeCommand 0b00000000000000000000000000000001 = .ok .init := by decide
theorem test_decode_expand0key : decodeCommand 0b00000000000000000000000000000010 = .ok .expand0key := by decide
theorem test_decode_expandkey : decodeCommand 0b00000000000000000000000100000010 = .ok .expandkey := by decide
theorem test_decode_expand0salt : decodeCommand 0b00000000000000000000001000000010 = .ok .expand0salt := by decide
theorem test_decode_expandsalt : decodeCommand 0b00000000000000000000001100000010 = .ok .expandsalt := by decide
theorem test_decode_encrypt : decodeCommand 0b00000000000000000000000000000011 = .ok .encrypt := by decide
theorem test_decode_setup : decodeCommand 0b00000000000000000000000000000100 = .ok .setup := by decide
theorem test_decode_ecb64 : decodeCommand 0b00000000000000000000000000000101 = .ok .ecb64 := by decide
theorem test_decode_crypt : decodeCommand 0b00000000000000000000000000000110 = .ok .crypt := by decide
theorem test_decode_zeroize : decodeCommand 0b00000000000000000000000000000111 = .ok .zeroize := by decide
theorem test_decode_rd :
    decodeBus 0b0_00000000001100_00000000000000000000000000000000 = .rd 0x00C := by decide
theorem test_decode_wr :
    decodeBus 0b1_00000000010100_00000000000000000000000000001100 = .wr 0x014 0x0000000C := by decide
theorem test_decode_reserved_op : decodeCommand 0x00000008 = .error .reservedOp := by decide
theorem test_decode_sx_with_init : decodeCommand 0x00000101 = .error .selectOnNonExpand := by decide
theorem test_decode_ks_with_crypt : decodeCommand 0x00000206 = .error .selectOnNonExpand := by decide
theorem test_decode_bit4 : decodeCommand 0x00000012 = .error .reservedBits := by decide
theorem test_decode_bit10 : decodeCommand 0x00000402 = .error .reservedBits := by decide
theorem test_decode_bit31 : decodeCommand 0x80000002 = .error .reservedBits := by decide
theorem test_table_word_rejects_illegal : decodeTableWord 32 0x0000000F = none := by decide

/-! Bus transactions (L2.1, L2.7). -/

/-- RD after reset: ID, a reserved offset; while BUSY: CT reads 0, STATUS is answered. -/
theorem test_rd :
    look (exec (.rd 0x000) State.reset) State.rdata = some 0x42464531 ∧ look (exec (.rd 0x01C) State.reset) State.rdata = some 0 ∧
    look (exec (.rd 0x040) { busy 6 with ct := Vector.replicate 6 7 }) State.rdata = some 0 ∧
    look (exec (.rd 0x00C) (busy 1)) State.rdata = some 0x00000001 := by decide

/-- R37, R181, R185: RD of PWIN[17] and SWIN[3][255] after INIT, with SECRET_READBACK true. -/
theorem test_rd_windows_after_init :
    afterInit.readReg true (regAt 0x1044) = 0x8979FB1B ∧ afterInit.readReg true (regAt 0x2FFC) = 0x3AC372E6 := by decide +kernel

/-- WR after reset: COST keeps its low byte, address bits 1:0 are ignored, CTRL, CT is read-only, BUSY and SV are not writable, and
clearing ERR keeps ECODE. -/
theorem test_wr_idle :
    look (exec (.wr 0x014 0x00000104) State.reset) State.cost = some 4 ∧
    look (exec (.wr 0x017 0x0000000C) State.reset) State.cost = some 12 ∧
    look (exec (.wr 0x008 0xFFFFFFFF) State.reset) State.ctrlWord = some 1 ∧
    look (exec (.wr 0x040 0x12345678) State.reset) (fun s => s.ct[0]) = some 0 ∧
    look (exec (.wr 0x00C 0xFFFFFFFF) { State.reset with sv := true }) State.statusWord = some 0x00000010 ∧
    look (exec (.wr 0x00C 4) { State.reset with done := true, err := true, sv := true, ecode := 3 }) State.statusWord =
      some 0x00000312 := by decide

/-- WR of CMD, and WR while BUSY: a dropped write sets BWE, a second command is dropped, a reserved offset sets no flag. -/
theorem test_wr_busy :
    look (exec (.wr 0x010 0) { State.reset with done := true, err := true, ecode := 4, bwe := true, sv := true }) State.statusWord =
      some 0x00000019 ∧
    look (exec (.wr 0x014 7) (busy 6)) (fun s => (s.statusWord, s.cost)) = some (0x00000009, 0) ∧
    look (exec (.wr 0x010 1) (busy 0)) State.pending = some (some 0) ∧
    look (exec (.wr 0x01C 0xFFFFFFFF) (busy 0)) State.bwe = some false := by decide

/-! Completion (L2.2, L2.5, L2.7, R210). -/

theorem test_nop_completes : look (step (State.reset.withFetchWord 32 0)) State.statusWord = some 0x00000002 := by decide
theorem test_illegal_completes :
    look (step ({ State.reset with sv := true }.withFetchWord 32 0x00000101)) State.statusWord = some 0x00000416 := by decide
theorem test_zeroize_completes :
    look (step ({ State.reset with sv := true, cost := 4 }.withFetchWord 32 7)) (fun s => (s.statusWord, s.cost)) =
      some (0x00000002, 0) := by decide
theorem test_ecb64_uninitialised : look (step (State.reset.withFetchWord 32 5)) State.statusWord = some 0x00000506 := by decide
theorem test_crypt_cost_wins : look (step ({ State.reset with cost := 3 }.withFetchWord 32 6)) State.statusWord = some 0x00000106 := by
  decide
theorem test_setup_keylen_73 :
    look (step ({ State.reset with cost := 4, keylen := 73 }.withFetchWord 32 4)) State.ecode = some 3 := by decide
theorem test_setup_status :
    look (step ({ State.reset with cost := 31, keylen := 72 }.withFetchWord 32 4)) State.statusWord = some 0x00000012 := by
  decide +kernel
theorem test_crypt_status :
    look (step ({ State.reset with cost := 4, keylen := 1 }.withFetchWord 32 6)) State.statusWord = some 0x00000012 := by
  decide +kernel
theorem test_init_twice :
    look (step (afterInit.withFetchWord 32 1)) (fun s => (s.statusWord, s.bf.p[16])) = some (0x00000012, 0x9216D5D9) := by
  decide +kernel
theorem test_irq_rises_and_falls :
    look (step ({ State.reset with ie := true }.withFetchWord 32 0)) State.irq = some true ∧
    look (exec (.wr 0x00C 2) { State.reset with ie := true, done := true }) State.irq = some false := by decide
theorem test_reset_abandons :
    look (step { busy 7 with ie := true, moves := [.reset] }) (fun s => (s.pending, s.irq, s.statusWord)) =
      some (none, false, 0) := by decide

/-! Blowfish (L2.3). -/

theorem test_rom_checksums :
    piRom.length = 1042 ∧ (piRom.foldl (fun a x => a ^^^ x) 0) = 0x6FFA520A ∧ (piRom.foldl (fun a x => a + x) 0) % 2 ^ 32 = 0x6BBF03AC := by
  decide +kernel
theorem test_f_bytes : feistelF piState 0x01020304 = 0x3CEDFF8C := by decide +kernel
theorem test_f_high_bits : feistelF piState 0x80000001 = 0xB75E1054 := by decide +kernel
theorem test_encrypt_one_bit :
    look (exec .encrypt { afterInit with dataL := 1, dataR := 0 }) (fun s => (s.dataL, s.dataR)) =
      some (0xD4C101BE, 0x7D620C93) := by decide +kernel
theorem test_encrypt_all_ones :
    look (exec .encrypt { afterInit with dataL := 0xFFFFFFFF, dataR := 0xFFFFFFFF }) (fun s => (s.dataL, s.dataR)) =
      some (0xBA66D0C0, 0xEA4FA48C) := by decide +kernel

/-! The key stream and ExpandKey (L2.4, L2.5). -/

theorem test_key_stream_wraps :
    keyWord [0x61, 0x62, 0x63, 0x64, 0x00] 1 = 0x00616263 ∧ keyWord [0x61, 0x62, 0x63, 0x64, 0x00] 17 = 0x64006162 := by decide
theorem test_salt_key_stream : keyWord (saltBytes salt16) 17 = 0x04050607 := by decide
theorem test_expand0key_p0 : look (exec .expand0key expandRow) (fun s => s.bf.p[0]) = some 0x706D9FCC := by decide +kernel
theorem test_expandkey_p0 : look (exec .expandkey expandRow) (fun s => s.bf.p[0]) = some 0x595CFAE9 := by decide +kernel
theorem test_expand0salt_p0 : look (exec .expand0salt expandRow) (fun s => s.bf.p[0]) = some 0x9496B0D1 := by decide +kernel
theorem test_expandsalt_p0 : look (exec .expandsalt expandRow) (fun s => s.bf.p[0]) = some 0x026EFD2E := by decide +kernel

/-! The digest (L2.6). -/

theorem test_one_pass :
    ecbPass piState magicWords = #v[0xA22420CF, 0x2AD3EF8A, 0x9D5D5F8A, 0xF746A978, 0x4C94D9CA, 0xFBE28BD5] := by decide +kernel

/-! The platform and the host assembly (R62, R90, R91). -/

theorem test_platform_read : moveAt 0x8000 ⟨false, .word, 0x8014, 0⟩ = some (.bus (busWord false 0x014 0)) := by decide
theorem test_platform_outside : moveAt 0x8000 ⟨true, .word, 0xC000, 1⟩ = none := by decide
theorem test_cmd_line : HostAsm.cmd .expand0salt = [HostAsm.wr .cmd 0x00000202] := by decide
theorem test_load_salt_line :
    HostAsm.loadSalt [0x14, 0x4B, 0x3D, 0x69] =
      [HostAsm.wr (.salt 0) 0x144B3D69, HostAsm.wr (.salt 1) 0, HostAsm.wr (.salt 2) 0, HostAsm.wr (.salt 3) 0] := by decide

/-! WITNESSES. For each statement of Obligations.lean with hypotheses, a concrete state and operands that meet them, at the edges of
the ranges they name. A statement with no hypothesis has none. -/

/-- The state of an illegal word in progress whose completion step is the next event. -/
def engineNext (v : Word) (s : State) : State := { s with pending := some v, moves := [.engine] }

/-- The state with one write transaction to come. -/
def writeNext (addr : BitVec 14) (v : Word) (s : State) : State := { s with moves := [.bus (busWord true addr v)] }

/-- After a failed command. -/
def failedState : State := { State.reset with done := true, err := true, ecode := 4 }

theorem witness_IllegalWordsCompleteWithCode4 :
    (Reference.Illegal 0x00000008 ∧ Reference.Illegal 0x0000000F ∧ Reference.Illegal 0x00000010 ∧ Reference.Illegal 0x00000080 ∧
      Reference.Illegal 0x00000101 ∧ Reference.Illegal 0x00000203 ∧ Reference.Illegal 0x00000400 ∧ Reference.Illegal 0x80000002) ∧
    State.reset.pending = none ∧ Reference.off 0x010 = 0x010 ∧ Reference.off 0x013 = 0x010 ∧
    (engineNext 0x101 State.reset).pending = some 0x101 ∧ (engineNext 0x101 State.reset).moves = .engine :: [] := by
  refine ⟨⟨.inr (.inl ?_), .inr (.inl ?_), .inl (.inr ?_), .inl (.inr ?_), .inr (.inr ?_), .inr (.inr ?_), .inl (.inl ?_), .inl (.inl ?_)⟩,
    rfl, rfl, rfl, rfl, rfl⟩ <;> decide

theorem witness_DecodeOfEncodeIsTheInstruction :
    Instr.nop.wellFormed = true ∧ (Instr.rd 0x3FFF).wellFormed = true ∧ (Instr.wr 0x3FFF 0xFFFFFFFF).wellFormed = true := by decide

theorem witness_StepRunsTheDecodedInstruction :
    (writeNext 0x014 7 State.reset).moves = .bus (busWord true 0x014 7) :: [] ∧
    (engineNext 2 State.reset).moves = .engine :: [] ∧ (engineNext 2 State.reset).pending = some 2 ∧
    decodeCommand 2 = .ok .expand0key ∧
    Instr.zeroize.wellFormed = true ∧ Instr.zeroize.isCommand = true ∧
    (Instr.rd 0x00C).wellFormed = true ∧ (Instr.rd 0x00C).isCommand = false := by decide

theorem witness_AcceptanceLatchesTheWord :
    Reference.off 0x010 = 0x010 ∧ Reference.off 0x013 = 0x010 ∧ { State.reset with done := true, ie := true }.pending = none := by decide

theorem witness_CompletionStepEndsTheCommand :
    (engineNext 0 State.reset).pending = some 0 ∧ (engineNext 0 State.reset).moves = .engine :: [] ∧
    decodeCommand 0 = .ok .nop ∧ (engineNext 8 State.reset).pending = some 8 ∧ decodeCommand 8 = .error .reservedOp := by decide

theorem witness_PendingCommandCompletesWithNoEvent :
    (busy 6).pending = some 6 ∧ (busy 6).moves = [] ∧
    { State.reset with moves := [.engine, .engine] }.pending = none ∧
    { State.reset with moves := [.engine, .engine] }.moves = .engine :: [.engine] := by decide

/-- The statement's hypotheses, in a state for each of the five codes, at the edges of COST and KEYLEN. -/
theorem witness_FirstApplicableErrorIsReported :
    (∀ v : Word, (engineNext v State.reset).pending = some v ∧ (engineNext v State.reset).moves = .engine :: []) ∧
    Reference.errorCode 0x8 State.reset = 4 ∧ Reference.errorCode 0x2 { State.reset with keylen := 73 } = 5 ∧
    Reference.errorCode 0x4 { State.reset with cost := 3 } = 1 ∧ Reference.errorCode 0x6 { State.reset with cost := 32, keylen := 1 } = 1 ∧
    Reference.errorCode 0x6 { State.reset with cost := 4, keylen := 0 } = 3 ∧
    Reference.errorCode 0x4 { State.reset with cost := 31, keylen := 73 } = 3 ∧
    Reference.errorCode 0x102 { State.reset with sv := true, keylen := 73 } = 3 ∧
    Reference.errorCode 0x4 { State.reset with cost := 31, keylen := 72 } = 0 ∧
    Reference.errorCode 0x202 { State.reset with sv := true, keylen := 0 } = 0 := by
  refine ⟨fun v => ⟨rfl, rfl⟩, ?_⟩
  decide

/-- A failed command; then, with ERR = 1 and ECODE = 4, a transaction for each clause: STATUS bit 2 written, a command accepted, an operand
written, and a write of CMD dropped because BUSY = 1. -/
theorem witness_FailedCommandChangesOnlyStatus :
    (∃ t, step (engineNext 5 State.reset) = .next t ∧ t.ecode ≠ 0) ∧
    (Reference.ClearsErr (busWord true 0x00F 4) ∧ ¬ Reference.Accepts (busWord true 0x00F 4) failedState) ∧
    Reference.Accepts (busWord true 0x010 0) failedState ∧
    (¬ Reference.ClearsErr (busWord true 0x014 4) ∧ ¬ Reference.Accepts (busWord true 0x014 4) failedState) ∧
    ¬ Reference.Accepts (busWord true 0x010 0) (busy 6) ∧
    (∃ t, step (writeNext 0x014 4 failedState) = .next t ∧ t.err = true ∧ t.ecode = 4) := by
  have hStatus : decodeBus (busWord true 0x00F 4) = .wr 0x00F 4 := by decide
  have hCost : decodeBus (busWord true 0x014 4) = .wr 0x014 4 := by decide
  refine ⟨⟨_, rfl, by decide⟩, ⟨⟨_, _, hStatus, by decide, by decide⟩, ?_⟩, ⟨0x010, 0, by decide, by decide, rfl⟩, ⟨?_, ?_⟩, ?_,
    ⟨_, rfl, by decide⟩⟩
  · rintro ⟨a, v, h, ho, -⟩
    rw [hStatus] at h
    cases h
    exact absurd ho (by decide)
  · rintro ⟨a, v, h, ho, -⟩
    rw [hCost] at h
    cases h
    exact absurd ho (by decide)
  · rintro ⟨a, v, h, ho, -⟩
    rw [hCost] at h
    cases h
    exact absurd ho (by decide)
  · rintro ⟨a, v, -, -, hp⟩
    cases hp

theorem witness_CommandsWriteOnlyTheirRow :
    (∀ i ∈ Instr.commands, i.isCommand = true ∧ ∃ t, exec i afterInit = .next t) ∧
    (∃ t, exec .ecb64 State.reset = .next t ∧ t.ecode ≠ 0) ∧ (∃ t, exec .encrypt afterInit = .next t ∧ t.ecode = 0) := by
  refine ⟨fun i hi => ⟨?_, exec_next i afterInit⟩, ⟨_, rfl, by decide⟩, ⟨_, rfl, by decide⟩⟩
  revert i
  decide

theorem witness_SvChangesOnlyAsStated :
    (∃ t, step (engineNext 1 State.reset) = .next t ∧ State.reset.sv = false ∧ t.sv = true) ∧
    (∃ t, step { busy 1 with moves := [] } = .next t ∧ t.sv = true) ∧
    (∃ t, step (engineNext 7 afterInit) = .next t ∧ afterInit.sv = true ∧ t.sv = false) ∧
    (∃ t, step { afterInit with moves := [.reset] } = .next t ∧ t.sv = false) ∧
    (∃ t, exec .init State.reset = .next t ∧ t.ecode = 0) ∧
    (∃ t, exec .zeroize State.reset = .next t) ∧ State.reset.sv = false := by
  refine ⟨⟨_, rfl, rfl, rfl⟩, ⟨_, rfl, rfl⟩, ⟨_, rfl, rfl, rfl⟩, ⟨_, rfl, rfl⟩, ⟨_, exec_init _, rfl⟩, ⟨_, rfl⟩, rfl⟩

theorem witness_IrqIsIeAndDone :
    (engineNext 0 { State.reset with ie := true }).pending = some 0 ∧
    (engineNext 0 { State.reset with ie := true }).moves = .engine :: [] ∧
    (engineNext 0 { State.reset with ie := true }).ie = true ∧
    { State.reset with done := true }.done = true ∧ (0x00000001 : Word).getLsbD 0 = true ∧ (0x00000002 : Word).getLsbD 1 = true ∧
    (0xFFFFFFFE : Word).getLsbD 0 = false ∧ State.reset.pending = none := by decide

/-- A run of transactions while BUSY = 1: a dropped write, a read, an interrupt enable. -/
def busyRun : List Move := [HostAsm.wr .cost 7, HostAsm.rd .status, HostAsm.wr .ctrl 1]

theorem witness_OperandsAreFixedWhileBusy :
    Reference.OnlyBus busyRun ∧ Reference.OnlyBus [] ∧ (busy 6).pending = some 6 ∧
    { busy 6 with moves := busyRun ++ [Move.reset] }.moves = busyRun ++ [Move.reset] := by
  unfold Reference.OnlyBus busyRun HostAsm.wr HostAsm.rd
  exact ⟨by simp, by simp, rfl, rfl⟩

theorem witness_CompletionDoesNotDependOnWhen :
    Reference.OnlyBus busyRun ∧ (busy 6).pending = some 6 ∧
    { busy 6 with moves := busyRun ++ Move.engine :: [] }.moves = busyRun ++ Move.engine :: [] := by
  unfold Reference.OnlyBus busyRun HostAsm.wr HostAsm.rd
  exact ⟨by simp, rfl, rfl⟩

theorem witness_SubWordAddressBitsAreIgnored :
    (0x014 : BitVec 14).toNat / 4 = (0x017 : BitVec 14).toNat / 4 ∧ (0x3FFC : BitVec 14).toNat / 4 = (0x3FFF : BitVec 14).toNat / 4 := by
  decide

/-- Both ends of every hole of the map (R35). -/
theorem witness_ReservedOffsetsReadZeroIgnoreWrites :
    ∀ a ∈ ([0x01C, 0x01F, 0x038, 0x03F, 0x058, 0x07F, 0x0C8, 0x0FFF, 0x1048, 0x1FFF, 0x3000, 0x3FFF] : List (BitVec 14)),
      ¬ Reference.Named (Reference.off a) := by
  simp [Reference.Named, Reference.off]

theorem witness_BusyReadsReturnZero :
    (busy 6).pending = some 6 ∧ (∀ a ∈ ([0x010, 0x014, 0x0C4, 0x1000, 0x2FFC, 0x3FFC] : List (BitVec 14)),
      Reference.off a ∉ [0x000, 0x004, 0x008, 0x00C]) :=
  ⟨rfl, by simp [Reference.off]⟩

/-- A busy state, and for each clause the offsets at the edges of its ranges; no offset stands under two clauses. -/
theorem witness_BusyWritesAreDropped :
    (busy 6).pending = some 6 ∧
    (∀ o ∈ ([0x010, 0x014, 0x018, 0x020, 0x02C, 0x030, 0x034, 0x080, 0x0C4] : List (BitVec 14)).map Reference.off,
      o ∈ [0x010, 0x014, 0x018, 0x030, 0x034] ∨ (0x020 ≤ o ∧ o ≤ 0x02C) ∨ (0x080 ≤ o ∧ o ≤ 0x0C4)) ∧
    Reference.off 0x00B = 0x008 ∧ Reference.off 0x00F = 0x00C ∧
    (∀ o ∈ ([0x000, 0x004, 0x040, 0x054, 0x1000, 0x1044, 0x2000, 0x2FFC, 0x01C, 0x3FFC] : List (BitVec 14)).map Reference.off,
      o ∈ [0x000, 0x004] ∨ (0x040 ≤ o ∧ o ≤ 0x054) ∨ (0x1000 ≤ o ∧ o ≤ 0x1044) ∨ (0x2000 ≤ o ∧ o ≤ 0x2FFC) ∨ ¬ Reference.Named o) := by
  refine ⟨rfl, ?_⟩
  simp [Reference.Named, Reference.off]

theorem witness_SecretReadbackGuardsKeyAndSchedule :
    ((∀ k, Reg.ct 5 ≠ .key k) ∧ (∀ i, Reg.ct 5 ≠ .pwin i) ∧ (∀ j n, Reg.ct 5 ≠ .swin j n)) ∧
    afterInit.pending = none ∧ afterInit.sv = true ∧ State.reset.sv = false ∧ ({ afterInit with pending := some 0 } : State).pending ≠ none := by
  refine ⟨⟨?_, ?_, ?_⟩, rfl, rfl, rfl, ?_⟩ <;> simp

theorem witness_OnlyNarrowAccessesAreRefused :
    { State.reset with moves := [HostAsm.rd .id, .engine, .reset] }.wordAccessesOnly = true ∧ State.reset.wordAccessesOnly = true ∧
    { State.reset with moves := [.narrowBus .byte 0] }.moves = .narrowBus .byte 0 :: [] := by decide

/-- The ends of the window; BASE is a parameter, so an access below it exists only where BASE is not 0. -/
theorem witness_PlatformAccessReachesItsOffset :
    (⟨true, .word, Config.base + 0x3FFF, 1⟩ : PlatformAccess).addr = Config.base + 0x3FFF ∧ 0x3FFF < 0x4000 ∧
    (⟨false, .narrow .byte, Config.base + 0, 0⟩ : PlatformAccess).addr = Config.base + 0 ∧
    Config.base + 0x4000 ≤ (⟨false, .word, Config.base + 0x4000, 0⟩ : PlatformAccess).addr := by
  exact ⟨rfl, by decide, rfl, Nat.le_refl _⟩

theorem witness_KeyAndSaltBytesAtTheirBits :
    { State.reset with keylen := 72 }.keylen.toNat ≤ 72 ∧ (71 : Fin 72).val < { State.reset with keylen := 72 }.keylen.toNat ∧
    (0 : Fin 72).val < { State.reset with keylen := 1 }.keylen.toNat := by decide

theorem witness_KeyStreamIsCyclic :
    1 ≤ [(0x61 : Byte)].length ∧ [(0x61 : Byte)].length ≤ 72 ∧ 1 ≤ (List.replicate 72 (0xFF : Byte)).length ∧
    (List.replicate 72 (0xFF : Byte)).length ≤ 72 ∧ 17 < 18 := by decide

theorem witness_FeistelFunctionValue :
    (1 : Fin 256).val = (0x010203FF : Word).toNat / 2 ^ 24 ∧ (2 : Fin 256).val = (0x010203FF : Word).toNat / 2 ^ 16 % 256 ∧
    (3 : Fin 256).val = (0x010203FF : Word).toNat / 2 ^ 8 % 256 ∧ (255 : Fin 256).val = (0x010203FF : Word).toNat % 256 := by decide

theorem witness_EncryptEnciphersTheBlock : afterInit.sv = true ∧ State.reset.sv = false := ⟨rfl, rfl⟩

theorem witness_ExpandWithTheKeyRegister :
    (expandRow.sv = true ∧ 1 ≤ expandRow.keylen.toNat ∧ expandRow.keylen.toNat ≤ 72) ∧ State.reset.sv = false ∧
    (afterInit.sv = true ∧ afterInit.keylen.toNat < 1) ∧ 72 < { afterInit with keylen := 73 }.keylen.toNat ∧
    { afterInit with keylen := 72 }.keylen.toNat ≤ 72 := by
  refine ⟨⟨rfl, ?_, ?_⟩, rfl, ⟨rfl, ?_⟩, ?_, ?_⟩ <;> decide

theorem witness_ExpandWithTheSaltAsKey : expandRow.sv = true ∧ expandRow.keylen.toNat < 73 ∧ State.reset.sv = false := by
  refine ⟨rfl, ?_, rfl⟩; decide

theorem witness_ZeroSaltIsNoSalt : ∀ k : Fin 4, afterInit.salt[k] = 0 := by
  intro k; simp [afterInit, State.reset]

/-- Two KEY registers that differ, and share their first byte. -/
theorem witness_KeyBytesBeyondKeylenAreIgnored :
    Instr.setup.isCommand = true ∧ { State.reset with keylen := 1 }.key ≠ Vector.replicate 18 0x00FFFFFF ∧
    Reference.SameKeyBytes { State.reset with keylen := 1 }.keylen.toNat { State.reset with keylen := 1 }.key
      (Vector.replicate 18 0x00FFFFFF) := by
  unfold Reference.SameKeyBytes
  decide

/-- The operands of SETUP and CRYPT at the edges of every clause: legal, COST out of range, KEYLEN out of range. -/
def setupOps (cost keylen : BitVec 8) : State := { State.reset with cost := cost, keylen := keylen }

theorem witness_SetupRunsTheKeySchedule :
    (∀ c ∈ ([4, 31] : List (BitVec 8)), ∀ k ∈ ([1, 72] : List (BitVec 8)), 4 ≤ (setupOps c k).cost.toNat ∧
      (setupOps c k).cost.toNat ≤ 31 ∧ 1 ≤ (setupOps c k).keylen.toNat ∧ (setupOps c k).keylen.toNat ≤ 72) ∧
    (setupOps 3 1).cost.toNat < 4 ∧ 31 < (setupOps 32 1).cost.toNat ∧
    (∀ c ∈ ([4, 31] : List (BitVec 8)), 4 ≤ (setupOps c 0).cost.toNat ∧ (setupOps c 0).cost.toNat ≤ 31 ∧
      (setupOps c 0).keylen.toNat < 1 ∧ 72 < (setupOps c 73).keylen.toNat) := by decide

theorem witness_SetupIsTheCommandSequence :
    4 ≤ (setupOps 4 1).cost.toNat ∧ (setupOps 4 1).cost.toNat ≤ 31 ∧ 1 ≤ (setupOps 4 1).keylen.toNat ∧
    (setupOps 4 1).keylen.toNat ≤ 72 := by decide

theorem witness_Ecb64WritesTheDigest : afterInit.sv = true ∧ State.reset.sv = false := ⟨rfl, rfl⟩

theorem witness_CryptDerivesAndEncrypts :
    (4 ≤ (setupOps 31 72).cost.toNat ∧ (setupOps 31 72).cost.toNat ≤ 31 ∧ 1 ≤ (setupOps 31 72).keylen.toNat ∧
      (setupOps 31 72).keylen.toNat ≤ 72) ∧
    (setupOps 0 1).cost.toNat < 4 ∧ 31 < (setupOps 255 1).cost.toNat ∧
    (4 ≤ (setupOps 4 0).cost.toNat ∧ (setupOps 4 0).cost.toNat ≤ 31 ∧ (setupOps 4 0).keylen.toNat < 1) := by decide

theorem witness_CryptIsSetupThenEcb64 :
    4 ≤ (setupOps 5 4).cost.toNat ∧ (setupOps 5 4).cost.toNat ≤ 31 ∧ 1 ≤ (setupOps 5 4).keylen.toNat ∧
    (setupOps 5 4).keylen.toNat ≤ 72 := by decide

/-- Two states that agree on CRYPT's operands and differ in DATA, SV and the KEY bytes past KEYLEN. -/
theorem witness_CryptDependsOnItsOperandsAlone :
    let s := setupOps 4 1
    let s' := { setupOps 4 1 with dataL := 9, sv := true, key := Vector.replicate 18 0x00FFFFFF }
    s.cost = s'.cost ∧ s.keylen = s'.keylen ∧ s.salt = s'.salt ∧ Reference.SameKeyBytes s.keylen.toNat s.key s'.key := by
  unfold Reference.SameKeyBytes
  decide

theorem witness_ResetInputAbandonsAndClears : { busy 6 with moves := [.reset] }.moves = .reset :: [] := rfl

theorem witness_StepKeepsStatusInvariant :
    (busy 8).StatusInv ∧ State.reset.StatusInv ∧ (∃ t, step (busy 8) = .next t ∧ t.ecode = 4) := by
  refine ⟨⟨by decide, by decide, .inl rfl⟩, ⟨by decide, by decide, .inl rfl⟩, ⟨_, rfl, rfl⟩⟩

theorem witness_StepKeepsScheduleInvariant :
    afterInit.ScheduleInv ∧ afterInit.sv = true ∧ (∃ t, step (engineNext 2 expandRow) = .next t) := by
  exact ⟨fun _ => .constants, rfl, ⟨_, rfl⟩⟩

/-- Two states that differ in P and S while SV = 0. -/
theorem witness_ScheduleIsUnobservableWhileSvIsZero :
    State.reset.SameToHost { State.reset with bf := piState } ∧ State.reset.bf ≠ piState ∧
    (∃ t, step State.reset = .next t) := by
  refine ⟨.inr ⟨rfl, rfl⟩, ?_, ⟨_, rfl⟩⟩
  intro h
  have : State.reset.bf.p[0] = piState.p[0] := by rw [h]
  revert this
  decide +kernel

end Sys2Proof.Tests
end

section
/-! SUPPORT. Bytes and words, big-endian (R13): `be32` and `bytes_be` as arithmetic on values; `bytes_be` undoes `be32` because the
values agree. -/

namespace Sys2Proof.Machine

open Sys2Proof

/-- `be32` is three such appends, so its value is four digits to the base 256. -/
theorem toNat_append_byte {n : Nat} (x : BitVec n) (b : Byte) : (x ++ b).toNat = x.toNat * 2 ^ 8 + b.toNat := by
  rw [BitVec.toNat_append, ← Nat.shiftLeft_add_eq_or_of_lt b.isLt, Nat.shiftLeft_eq]

theorem be32_toNat (b0 b1 b2 b3 : Byte) :
    (be32 b0 b1 b2 b3).toNat = b0.toNat * 2 ^ 24 + b1.toNat * 2 ^ 16 + b2.toNat * 2 ^ 8 + b3.toNat := by
  simp only [be32, toNat_append_byte]
  omega

theorem bytesBE_map_toNat (w : Word) :
    (bytesBE w).map BitVec.toNat = [w.toNat / 2 ^ 24, w.toNat / 2 ^ 16 % 256, w.toNat / 2 ^ 8 % 256, w.toNat % 256] := by
  have top_lt : w.toNat / 2 ^ 24 < 256 := by omega
  simpa [bytesBE, Nat.shiftRight_eq_div_pow] using top_lt

/-- A word's four fields are the four digits that `be32_toNat` sums, each below 256. -/
@[simp] theorem bytesBE_be32 (b0 b1 b2 b3 : Byte) : bytesBE (be32 b0 b1 b2 b3) = [b0, b1, b2, b3] := by
  apply List.map_injective_iff.mpr BitVec.toNat_injective
  rw [bytesBE_map_toNat, be32_toNat]
  simp only [List.map_cons, List.map_nil, List.cons.injEq, and_true]
  omega

@[simp] theorem bytesOf_nil : bytesOf [] = [] := rfl

@[simp] theorem bytesOf_cons (w : Word) (ws : List Word) : bytesOf (w :: ws) = bytesBE w ++ bytesOf ws := rfl

/-- Settles O30: the value of `be32`, its inverse, the four fields of a word, and the bytes of a list of words by the recursion on it. -/
theorem bytesPackBigEndian : Obligations.BytesPackBigEndian :=
  ⟨be32_toNat, bytesBE_be32, bytesBE_map_toNat, bytesOf_cons, bytesOf_nil⟩

end Sys2Proof.Machine
end

section
/-! SUPPORT. The register at each address (10_state.md R21), and what a read and a write of it do (R24 to R39). -/

namespace Sys2Proof.Machine

open Sys2Proof

/-- R21: the register at an offset written out. -/
theorem regAt_ofNat {n : Nat} (hlt : n < 2 ^ 14) (h4 : n % 4 = 0) : regAt (BitVec.ofNat 14 n) = regAtOffset n := by
  apply regAt_eq
  rw [BitVec.toNat_ofNat, Nat.mod_eq_of_lt hlt]
  omega

/-- R60: the register at an address, by the offset of the statements. -/
theorem regAt_off (addr : BitVec 14) : regAt addr = regAtOffset (Reference.off addr) := regAt_eq rfl

theorem regAt_id : regAt 0x000 = .id := regAtOffset_id rfl

theorem regAt_version : regAt 0x004 = .version := regAtOffset_version rfl

theorem regAt_ctrl : regAt 0x008 = .ctrl := regAtOffset_ctrl rfl

theorem regAt_status : regAt 0x00C = .status := regAtOffset_status rfl

/-- An index of a bank of registers, read back from its offset. -/
theorem ofNat_offset {m : Nat} [NeZero m] (k : Fin m) {n : Nat} (h : n = k.val) : Fin.ofNat m n = k := by
  rw [h, Fin.ofNat_val_eq_self]

theorem regAt_salt (k : Fin 4) : regAt (BitVec.ofNat 14 (0x020 + 4 * k.val)) = .salt k := by
  rw [regAt_ofNat (by omega) (by omega), regAtOffset_salt (by omega), ofNat_offset k (by omega)]

theorem regAt_ct (k : Fin 6) : regAt (BitVec.ofNat 14 (0x040 + 4 * k.val)) = .ct k := by
  rw [regAt_ofNat (by omega) (by omega), regAtOffset_ct (by omega), ofNat_offset k (by omega)]

theorem regAt_key (k : Fin 18) : regAt (BitVec.ofNat 14 (0x080 + 4 * k.val)) = .key k := by
  rw [regAt_ofNat (by omega) (by omega), regAtOffset_key (by omega), ofNat_offset k (by omega)]

theorem regAt_pwin (i : Fin 18) : regAt (BitVec.ofNat 14 (0x1000 + 4 * i.val)) = .pwin i := by
  rw [regAt_ofNat (by omega) (by omega), regAtOffset_pwin (by omega), ofNat_offset i (by omega)]

theorem regAt_swin (j : Fin 4) (n : Fin 256) : regAt (BitVec.ofNat 14 (0x2000 + 0x400 * j.val + 4 * n.val)) = .swin j n := by
  rw [regAt_ofNat (by omega) (by omega), regAtOffset_swin (by omega), ofNat_offset j (by omega), ofNat_offset n (by omega)]

/-- The statements name the same multiples of 4 by six ranges. -/
theorem named_off_iff (addr : BitVec 14) : Reference.Named (Reference.off addr) ↔ offsetNamed (Reference.off addr) := by
  unfold Reference.Named offsetNamed Reference.off
  omega

theorem regAt_reserved_iff (addr : BitVec 14) : regAt addr = .reserved ↔ ¬ Reference.Named (Reference.off addr) := by
  rw [named_off_iff, regAt_off]
  rcases regAtOffset_inv (Reference.off addr) with ⟨hn, hr, -⟩ | ⟨hn, hr⟩ <;> simp [hn, hr]

/-- Settles O17: the map row by row, and the offsets outside every row. -/
theorem registerMapOffsets : Obligations.RegisterMapOffsets :=
  ⟨regAt_id, regAt_version, regAt_ctrl, regAt_status, regAtOffset_cmd rfl, regAtOffset_cost rfl,
    regAtOffset_keylen rfl, regAtOffset_dataL rfl, regAtOffset_dataR rfl, regAt_salt, regAt_ct, regAt_key, regAt_pwin, regAt_swin,
    regAt_reserved_iff⟩

/-! Reading a register (R24, R25, R35 to R38). -/

theorem readReg_id (rb : Bool) (s : State) : s.readReg rb .id = idValue := by
  unfold State.readReg
  rw [if_neg (by simp [Reg.answeredWhileBusy])]

theorem readReg_version (rb : Bool) (s : State) : s.readReg rb .version = versionValue := by
  unfold State.readReg
  rw [if_neg (by simp [Reg.answeredWhileBusy])]

theorem readReg_ctrl (rb : Bool) (s : State) : s.readReg rb .ctrl = s.ctrlWord := by
  unfold State.readReg
  rw [if_neg (by simp [Reg.answeredWhileBusy])]

theorem readReg_status (rb : Bool) (s : State) : s.readReg rb .status = s.statusWord := by
  unfold State.readReg
  rw [if_neg (by simp [Reg.answeredWhileBusy])]

theorem readReg_reserved (rb : Bool) (s : State) : s.readReg rb .reserved = 0 := ite_self 0

/-- R36: KEY shows while the block is idle and SECRET_READBACK is true. -/
theorem readReg_key (rb : Bool) (s : State) (k : Fin 18) :
    s.readReg rb (.key k) = if s.busy = false ∧ rb = true then s.key[k] else 0 := by
  cases hb : s.busy <;> simp [State.readReg, Reg.answeredWhileBusy, hb]

/-- R37: PWIN shows P under one condition more, SV = 1. -/
theorem readReg_pwin (rb : Bool) (s : State) (i : Fin 18) :
    s.readReg rb (.pwin i) = if s.busy = false ∧ s.sv = true ∧ rb = true then s.bf.p[i] else 0 := by
  cases hb : s.busy <;> simp [State.readReg, Reg.answeredWhileBusy, hb]

/-- R37: SWIN shows S as PWIN shows P. -/
theorem readReg_swin (rb : Bool) (s : State) (j : Fin 4) (n : Fin 256) :
    s.readReg rb (.swin j n) = if s.busy = false ∧ s.sv = true ∧ rb = true then s.bf.sAt j n else 0 := by
  cases hb : s.busy <;> simp [State.readReg, Reg.answeredWhileBusy, hb]

/-- R37: the windows are closed while SV = 0 or BUSY = 1. -/
theorem readReg_windows_closed (rb : Bool) {s : State} (h : s.sv = false ∨ s.pending ≠ none) :
    (∀ i, s.readReg rb (.pwin i) = 0) ∧ (∀ j n, s.readReg rb (.swin j n) = 0) := by
  have closed : ¬ (s.busy = false ∧ s.sv = true ∧ rb = true) := by
    rintro ⟨hidle, hsv, -⟩
    rw [s.not_busy_iff] at hidle
    simp [hidle, hsv] at h
  exact ⟨fun i => by rw [readReg_pwin, if_neg closed], fun j n => by rw [readReg_swin, if_neg closed]⟩

/-- R38: the rows of the map below the first four, one by one. -/
theorem regAtOffset_unansweredWhileBusy {n : Nat} (h : n ∉ [0x000, 0x004, 0x008, 0x00C]) :
    (regAtOffset n).answeredWhileBusy = false := by
  simp only [List.mem_cons, List.not_mem_nil, or_false, not_or] at h
  obtain ⟨hid, hversion, hctrl, hstatus⟩ := h
  rw [regAtOffset, if_neg hid, if_neg hversion, if_neg hctrl, if_neg hstatus]
  iterate 10 refine iteInduction (motive := fun r : Reg => r.answeredWhileBusy = false) (fun _ => rfl) fun _ => ?_
  rfl

/-! Writing a register (R24, R25, R35, R39). -/

theorem writeReg_ctrl (v : Word) (s : State) : s.writeReg v .ctrl = s.writeCtrl v := by
  unfold State.writeReg
  rw [if_neg (by simp [Reg.droppedWhileBusy])]

theorem writeReg_status (v : Word) (s : State) : s.writeReg v .status = s.clearSticky v := by
  unfold State.writeReg
  rw [if_neg (by simp [Reg.droppedWhileBusy])]

theorem writeReg_key {s : State} (v : Word) (k : Fin 18) (h : s.pending = none) :
    s.writeReg v (.key k) = { s with key := s.key.set k v } := by
  unfold State.writeReg
  rw [if_neg (by simp [s.not_busy_iff.2 h])]

/-- R61: the registers that take no write; a write to them sets no flag. -/
theorem writeReg_ignored (v : Word) (s : State) {r : Reg} (hd : r.droppedWhileBusy = false) (hc : r ≠ .ctrl) (hs : r ≠ .status) :
    s.writeReg v r = s := by
  unfold State.writeReg
  rw [if_neg (by simp [hd])]
  cases r with
  | ctrl => exact absurd rfl hc
  | status => exact absurd rfl hs
  | id | version | ct | pwin | swin | reserved => rfl
  | cmd | cost | keylen | salt | dataL | dataR | key => cases hd

theorem regAtOffset_droppedWhileBusy {n : Nat}
    (h : n ∈ [0x010, 0x014, 0x018, 0x030, 0x034] ∨ (0x020 ≤ n ∧ n ≤ 0x02C) ∨ (0x080 ≤ n ∧ n ≤ 0x0C4)) :
    (regAtOffset n).droppedWhileBusy = true := by
  simp only [List.mem_cons, List.not_mem_nil, or_false] at h
  rcases h with (h | h | h | h | h) | h | h
  · rw [regAtOffset_cmd h]; rfl
  · rw [regAtOffset_cost h]; rfl
  · rw [regAtOffset_keylen h]; rfl
  · rw [regAtOffset_dataL h]; rfl
  · rw [regAtOffset_dataR h]; rfl
  · rw [regAtOffset_salt h]; rfl
  · rw [regAtOffset_key h]; rfl

theorem writeReg_regAtOffset_ignored (v : Word) (s : State) {n : Nat}
    (h : n ∈ [0x000, 0x004] ∨ (0x040 ≤ n ∧ n ≤ 0x054) ∨ (0x1000 ≤ n ∧ n ≤ 0x1044) ∨ (0x2000 ≤ n ∧ n ≤ 0x2FFC) ∨
      regAtOffset n = .reserved) :
    s.writeReg v (regAtOffset n) = s := by
  simp only [List.mem_cons, List.not_mem_nil, or_false] at h
  rcases h with (h | h) | h | h | h | h
  · rw [regAtOffset_id h]; exact writeReg_ignored v s rfl nofun nofun
  · rw [regAtOffset_version h]; exact writeReg_ignored v s rfl nofun nofun
  · rw [regAtOffset_ct h]; exact writeReg_ignored v s rfl nofun nofun
  · rw [regAtOffset_pwin h]; exact writeReg_ignored v s rfl nofun nofun
  · rw [regAtOffset_swin h]; exact writeReg_ignored v s rfl nofun nofun
  · rw [h]; exact writeReg_ignored v s rfl nofun nofun

/-- Settles O21: an offset not named is `reserved`, which reads 0 and takes no write, busy or not. -/
theorem reservedOffsetsReadZeroIgnoreWrites : Obligations.ReservedOffsetsReadZeroIgnoreWrites := by
  intro addr v s h
  have hr := (regAt_reserved_iff addr).2 h
  constructor
  · rw [exec_rd, hr, readReg_reserved]
  · rw [exec_wr, hr, writeReg_ignored v s (r := .reserved) rfl nofun nofun]

/-- Settles O22: only the first four offsets are answered while BUSY. -/
theorem busyReadsReturnZero : Obligations.BusyReadsReturnZero := by
  intro addr s w hp ho
  rw [exec_rd, regAt_off, readReg_busy _ _ (State.busy_of_pending hp) (regAtOffset_unansweredWhileBusy ho)]

/-- Settles O23: the offsets of the first clause are dropped, those of the last take no write, and CTRL and STATUS are neither. -/
theorem busyWritesAreDropped : Obligations.BusyWritesAreDropped := by
  intro addr v w s hp o
  have hreg : exec (.wr addr v) s = .next (s.writeReg v (regAtOffset o)) := by rw [exec_wr, regAt_off]
  rw [hreg]
  refine ⟨fun h => ?_, fun h => ?_, fun h => ?_, fun h => ?_⟩
  · rw [writeReg_dropped v (State.busy_of_pending hp) (regAtOffset_droppedWhileBusy h), State.dropWrite]
  · rw [regAtOffset_ctrl h, writeReg_ctrl, State.writeCtrl]
  · rw [regAtOffset_status h, writeReg_status, State.clearSticky]
  · rw [← regAt_reserved_iff, regAt_off] at h
    rw [writeReg_regAtOffset_ignored v s h]

/-- Settles O24: CTRL is written and read in every state, busy or not. -/
theorem controlRegisterHoldsIe : Obligations.ControlRegisterHoldsIe := by
  refine ⟨fun s v => ?_, fun s => ?_, fun s => rfl, rfl⟩
  · rw [exec_wr, regAt_ctrl, writeReg_ctrl, State.writeCtrl]
  · rw [exec_rd, regAt_ctrl, readReg_ctrl, State.ctrlWord]
    cases s.ie <;> rfl

/-! The word of STATUS, bit by bit (R25). -/

theorem statusWord_getLsbD_low (s : State) :
    s.statusWord.getLsbD 0 = s.busy ∧ s.statusWord.getLsbD 1 = s.done ∧ s.statusWord.getLsbD 2 = s.err ∧
      s.statusWord.getLsbD 3 = s.bwe ∧ s.statusWord.getLsbD 4 = s.sv := by
  unfold State.statusWord
  refine ⟨?_, ?_, ?_, ?_, ?_⟩ <;> simp

/-- R25: from bit 5 up STATUS holds ECODE at bit 8 and nothing else. -/
theorem statusWord_getLsbD_high (s : State) {i : Nat} (h5 : 5 ≤ i) (hi : i < 32) :
    s.statusWord.getLsbD i = (decide (8 ≤ i) && s.ecode.getLsbD (i - 8)) := by
  have flag_low (b : Bool) {k : Nat} (hk : k ≤ 4) : (BitVec.setWidth 32 (BitVec.ofBool b) <<< k).getLsbD i = false := by
    have : i - k ≠ 0 := by omega
    simp [BitVec.getLsbD_ofBool, this]
  have busy_low : (BitVec.setWidth 32 (BitVec.ofBool s.busy)).getLsbD i = false := by
    simpa using flag_low s.busy (Nat.zero_le 4)
  have ecode_high : (BitVec.setWidth 32 s.ecode <<< 8).getLsbD i = (decide (8 ≤ i) && s.ecode.getLsbD (i - 8)) := by
    by_cases h8 : 8 ≤ i <;> simp [hi, h8]
  simp only [State.statusWord, BitVec.getLsbD_or, flag_low, busy_low, ecode_high, Nat.reduceLeDiff, Bool.or_false]

theorem statusWord_ecode (s : State) : s.statusWord.extractLsb' 8 4 = s.ecode := by
  apply BitVec.eq_of_getLsbD_eq
  intro i hi
  rw [BitVec.getLsbD_extractLsb', statusWord_getLsbD_high s (by omega) (by omega)]
  simp [hi]

theorem statusWord_zero_below_ecode (s : State) : s.statusWord.extractLsb' 5 3 = 0 := by
  apply BitVec.eq_of_getLsbD_eq
  intro i hi
  have : ¬ 8 ≤ 5 + i := by omega
  rw [BitVec.getLsbD_extractLsb', statusWord_getLsbD_high s (by omega) (by omega)]
  simp [this]

theorem statusWord_zero_above_ecode (s : State) : s.statusWord.extractLsb' 12 20 = 0 := by
  apply BitVec.eq_of_getLsbD_eq
  intro i hi
  rw [BitVec.getLsbD_extractLsb', statusWord_getLsbD_high s (by omega) (by omega), BitVec.getLsbD_of_ge _ _ (by omega)]
  simp

/-- Settles O25: the flags stand at bits 0 to 4, from bit 5 up there is ECODE at bit 8 alone, and a write clears the sticky bits. -/
theorem statusRegisterBits : Obligations.StatusRegisterBits := by
  constructor
  · intro s
    have hrd : exec (.rd 0x00C) s = .next { s with rdata := s.statusWord } := by rw [exec_rd, regAt_status, readReg_status]
    obtain ⟨hbusy, hdone, herr, hbwe, hsv⟩ := statusWord_getLsbD_low s
    exact ⟨_, hrd, rfl, hbusy, hdone, herr, hbwe, hsv, statusWord_zero_below_ecode s, statusWord_ecode s,
      statusWord_zero_above_ecode s⟩
  · intro s v
    have hwr : exec (.wr 0x00C v) s = .next (s.clearSticky v) := by rw [exec_wr, regAt_status, writeReg_status]
    refine ⟨_, hwr, rfl, ?_, ?_, ?_⟩ <;> simp

/-- Settles O26: each clause is the value of `readReg` at one of the three banks, or a write that `writeReg_ignored` drops. -/
theorem secretReadbackGuardsKeyAndSchedule : Obligations.SecretReadbackGuardsKeyAndSchedule := by
  refine ⟨exec_rd, fun s => ⟨fun k => ?_, fun i => ?_, fun j n => ?_⟩, fun s r hkey hpwin hswin => ?_,
    fun s hp => ⟨fun k => ?_, fun hsv => ⟨fun i => ?_, fun j n => ?_⟩⟩, fun s v k hp => ?_,
    fun s rb h => readReg_windows_closed rb h, fun s v => ⟨fun i => ?_, fun j n => ?_⟩⟩
  · simp [readReg_key]
  · simp [readReg_pwin]
  · simp [readReg_swin]
  · cases r with
    | key k => exact absurd rfl (hkey k)
    | pwin i => exact absurd rfl (hpwin i)
    | swin j n => exact absurd rfl (hswin j n)
    | _ => rfl
  · rw [readReg_key, if_pos ⟨s.not_busy_iff.2 hp, rfl⟩]
  · rw [readReg_pwin, if_pos ⟨s.not_busy_iff.2 hp, hsv, rfl⟩]
  · rw [readReg_swin, if_pos ⟨s.not_busy_iff.2 hp, hsv, rfl⟩]
    rfl
  · rw [exec_wr, regAt_key, writeReg_key v k hp]
  · rw [exec_wr, regAt_pwin, writeReg_ignored v s (r := .pwin i) rfl nofun nofun]
  · rw [exec_wr, regAt_swin, writeReg_ignored v s (r := .swin j n) rfl nofun nofun]

end Sys2Proof.Machine
end

section
/-! SUPPORT. Commands: ZEROIZE as an equation, and the commands that use P and S while SV = 0. -/

namespace Sys2Proof.Machine

open Sys2Proof

/-- R171: ZEROIZE as an equation, beside those of Laws/Commands.lean. -/
theorem exec_zeroize (s : State) :
    exec .zeroize s = .next (State.complete
      { s with
        bf := .zero, sv := false, cost := 0, keylen := 0, salt := Vector.replicate 4 0, dataL := 0, dataR := 0
        ct := Vector.replicate 6 0, key := Vector.replicate 18 0 }) := by
  rw [exec, execZeroize, endCommand_none]

/-- R203: the six commands that use the current P and S raise StateNotInitialised while there are none. -/
theorem exec_uninitialised {i : Instr} {s : State}
    (hi : i ∈ [.expand0key, .expandkey, .expand0salt, .expandsalt, .encrypt, .ecb64]) (h : s.sv = false) :
    exec i s = .next (s.raiseError .stateNotInitialised) := by
  simp only [List.mem_cons, List.not_mem_nil, or_false] at hi
  obtain rfl | rfl | rfl | rfl | rfl | rfl := hi
  · rw [exec_expand0key, checkExpandKey_uninitialised h, endCommand_some]
  · rw [exec_expandkey, checkExpandKey_uninitialised h, endCommand_some]
  · rw [exec_expand0salt, checkSchedule_failed h, endCommand_some]
  · rw [exec_expandsalt, checkSchedule_failed h, endCommand_some]
  · rw [exec_encrypt, checkSchedule_failed h, endCommand_some]
  · rw [exec_ecb64, checkSchedule_failed h, endCommand_some]

/-- R201: a raised error, in the terms of the statements. -/
theorem raiseError_eq_failed (e : CmdError) (s : State) : s.raiseError e = Reference.failed e.code s := by cases e <;> rfl

end Sys2Proof.Machine
end

section
/-! SUPPORT. While SV = 0 no event shows what P and S hold (10_state.md R42, R48): two states that differ in P and S alone are kept a pair
by each shared operation, so by every instruction, so by every step. -/

namespace Sys2Proof.Machine

open Sys2Proof

theorem readReg_of_bf {s : State} (h : s.sv = false) (b : BlowfishState) (rb : Bool) (r : Reg) :
    ({ s with bf := b } : State).readReg rb r = s.readReg rb r := by
  cases r with
  | pwin i => simp [readReg_pwin, h]
  | swin j n => simp [readReg_swin, h]
  | _ => rfl

theorem writeReg_of_bf (s : State) (b : BlowfishState) (v : Word) (r : Reg) :
    ({ s with bf := b } : State).writeReg v r = { s.writeReg v r with bf := b } := by
  have hb : ({ s with bf := b } : State).busy = s.busy := rfl
  simp only [State.writeReg, hb]
  split
  · rfl
  · cases r <;> rfl

theorem State.SameToHost.refl (s : State) : s.SameToHost s := .inl rfl

theorem State.SameToHost.of_bf {s : State} (h : s.sv = false) (b : BlowfishState) : s.SameToHost { s with bf := b } :=
  .inr ⟨h, rfl⟩

/-- Both kinds of pair agree on every field but `bf`. -/
theorem State.SameToHost.eq_but_bf {s t : State} (h : s.SameToHost t) : t = { s with bf := t.bf } := by
  obtain rfl | ⟨-, h⟩ := h
  · rfl
  · exact h

theorem State.SameToHost.pending_eq {s t : State} (h : s.SameToHost t) : s.pending = t.pending := by rw [h.eq_but_bf]

theorem State.SameToHost.moves_eq {s t : State} (h : s.SameToHost t) : s.moves = t.moves := by rw [h.eq_but_bf]

theorem State.SameToHost.rdata_eq {s t : State} (h : s.SameToHost t) : s.rdata = t.rdata := by rw [h.eq_but_bf]

theorem State.SameToHost.irq_eq {s t : State} (h : s.SameToHost t) : s.irq = t.irq := by rw [h.eq_but_bf]; rfl

theorem State.SameToHost.setMoves {s t : State} (h : s.SameToHost t) (ms : List Move) :
    ({ s with moves := ms } : State).SameToHost { t with moves := ms } := by
  obtain rfl | ⟨hsv, h⟩ := h
  · exact .refl _
  · exact .inr ⟨hsv, by rw [h]⟩

theorem State.SameToHost.completeWith {s t : State} (h : s.SameToHost t) (e : BitVec 4) :
    (s.completeWith e).SameToHost (t.completeWith e) := by
  obtain rfl | ⟨hsv, h⟩ := h
  · exact .refl _
  · exact .inr ⟨hsv, by rw [h]; rfl⟩

/-- What P and S held shows after a reset input in P and S alone, and SV is then 0. -/
theorem State.SameToHost.resetInput {s t : State} (h : s.SameToHost t) : s.resetInput.SameToHost t.resetInput := by
  obtain rfl | ⟨-, h⟩ := h
  · exact .refl _
  · exact .inr ⟨rfl, by rw [h, State.resetInput_of_bf]⟩

/-- A command that overwrites P and S gives the same state twice; one that leaves them gives a pair again; an error leaves everything. -/
theorem State.SameToHost.endCommand {s t : State} (h : s.SameToHost t) (check : Option CmdError) {effect : State → State}
    (he : (effect s).SameToHost (effect t)) : (s.endCommand check effect).SameToHost (t.endCommand check effect) := by
  cases check with
  | none => exact he.completeWith 0
  | some e => exact h.completeWith e.code

/-- The commands that use P and S raise an error; INIT, SETUP, CRYPT and ZEROIZE overwrite all of P and S; NOP, a read and a write leave
them alone, and a read shows nothing of them. -/
theorem exec_of_bf (i : Instr) {s : State} (h : s.sv = false) (b : BlowfishState) :
    ∃ t t', exec i s = .next t ∧ exec i { s with bf := b } = .next t' ∧ t.SameToHost t' := by
  have hb : s.SameToHost { s with bf := b } := .of_bf h b
  cases i with
  | nop => exact ⟨_, _, exec_nop _, exec_nop _, hb.completeWith 0⟩
  | init => exact ⟨_, _, exec_init _, exec_init _, .refl _⟩
  | setup => exact ⟨_, _, exec_setup _, exec_setup _, hb.endCommand s.checkSetup (.refl _)⟩
  | crypt => exact ⟨_, _, exec_crypt _, exec_crypt _, hb.endCommand s.checkSetup (.refl _)⟩
  | zeroize => exact ⟨_, _, exec_zeroize _, exec_zeroize _, .refl _⟩
  | rd addr => exact ⟨_, _, exec_rd _ _, exec_rd _ _, .inr ⟨h, by rw [readReg_of_bf h]⟩⟩
  | wr addr v =>
    obtain ⟨-, hsv, -⟩ := writeReg_frame v s (regAt addr)
    exact ⟨_, _, exec_wr _ _ _, exec_wr _ _ _, .inr ⟨hsv.trans h, by rw [writeReg_of_bf]⟩⟩
  | expand0key | expandkey | expand0salt | expandsalt | encrypt | ecb64 =>
    exact ⟨_, _, exec_uninitialised (by simp) h, exec_uninitialised (by simp) h, hb.completeWith _⟩

theorem State.SameToHost.exec {s s' t : State} (h : s.SameToHost s') {i : Instr} (ht : exec i s = .next t) :
    ∃ t', exec i s' = .next t' ∧ t.SameToHost t' := by
  obtain rfl | ⟨hsv, hs'⟩ := h
  · exact ⟨t, ht, .refl t⟩
  · obtain ⟨u, u', hu, hu', huu'⟩ := exec_of_bf i hsv s'.bf
    cases hu.symm.trans ht
    exact ⟨u', hs' ▸ hu', huu'⟩

/-- The engine's turn: PENDING is the same word in both states. -/
theorem State.SameToHost.engineStep {s s' t : State} (h : s.SameToHost s') (ht : engineStep s = .next t) :
    ∃ t', engineStep s' = .next t' ∧ t.SameToHost t' := by
  have hp := h.pending_eq
  rcases engineStep_cases s with ⟨hs, he⟩ | ⟨v, e, hs, hd, he⟩ | ⟨v, i, hs, hd, -, he⟩
  · cases he.symm.trans ht
    exact ⟨s', engineStep_idle (hp ▸ hs), h⟩
  · cases he.symm.trans ht
    exact ⟨_, engineStep_illegal (hp ▸ hs) hd, h.completeWith _⟩
  · rw [engineStep_ok (hp ▸ hs) hd]
    exact h.exec (he ▸ ht)

theorem State.SameToHost.step {s s' t : State} (h : s.SameToHost s') (ht : step s = .next t) :
    ∃ t', step s' = .next t' ∧ t.SameToHost t' := by
  have hm := h.moves_eq
  rcases step_cases ht with ⟨hs, he⟩ | ⟨ms, hs, he⟩ | ⟨w, ms, hs, he⟩ | ⟨ms, hs, rfl⟩
  · rw [step_nil (hm ▸ hs)]
    exact h.engineStep he
  · rw [step_cons (hm ▸ hs)]
    exact (h.setMoves ms).engineStep he
  · rw [step_cons (hm ▸ hs)]
    exact (h.setMoves ms).exec he
  · rw [step_cons (hm ▸ hs)]
    exact ⟨_, rfl, (h.setMoves ms).resetInput⟩

/-- Settles O57: every step keeps the pair, and a pair agrees on rdata and IRQ. -/
theorem scheduleIsUnobservableWhileSvIsZero : Obligations.ScheduleIsUnobservableWhileSvIsZero := by
  intro s s' t h ht
  obtain ⟨t', ht', htt'⟩ := h.step ht
  exact ⟨t', ht', htt', htt'.rdata_eq, htt'.irq_eq⟩

end Sys2Proof.Machine
end

section
/-! SUPPORT. A command has no word but its own (30_encoding.md R81, R86). -/

namespace Sys2Proof.Machine

open Sys2Proof

/-- R81: a word with no reserved bit set is put together from its fields, since its five adjacent fields are all of it. -/
theorem commandWord_fields {v : Word} (h : rsvSet v = false) : commandWord (opField v) (sxField v) (ksField v) = v := by
  obtain ⟨hhi, hlo⟩ : v.extractLsb' 10 22 = 0 ∧ v.extractLsb' 4 4 = 0 := by simpa [rsvSet] using h
  have bit_field (k : Nat) : BitVec.ofBool (v.getLsbD k) = v.extractLsb' k 1 := by
    ext i hi
    obtain rfl : i = 0 := by omega
    simp
  have join {a m n : Nat} (b : Nat) (h : b = a + m) : v.extractLsb' b n ++ v.extractLsb' a m = v.extractLsb' a (n + m) :=
    BitVec.extractLsb'_append_extractLsb'_eq_extractLsb' h
  rw [commandWord, opField, sxField, ksField, bit_field, bit_field, ← hhi, ← hlo, join 10 rfl, join 9 rfl, join 8 rfl]
  exact (join 4 rfl).trans BitVec.extractLsb'_eq_self

theorem encode_of_commandOfOp {op : BitVec 4} {i : Instr} (h : commandOfOp op = .ok i) :
    encode i = .command (commandWord op false false) := by
  have hop : BitVec.ofNat 4 op.toNat = op := by simp
  unfold commandOfOp at h
  split at h <;> cases h <;> rename_i hn <;> rw [← hop, hn] <;> rfl

theorem encode_of_decodeCommand {v : Word} {i : Instr} (h : decodeCommand v = .ok i) : encode i = .command v := by
  unfold decodeCommand at h
  split at h
  · cases h
  next hrsv =>
    rw [← commandWord_fields (Bool.eq_false_of_not_eq_true hrsv)]
    split at h
    next hop =>
      cases h
      rw [hop]
      cases sxField v <;> cases ksField v <;> rfl
    split at h
    · cases h
    next hsel =>
      obtain ⟨hsx, hks⟩ : sxField v = false ∧ ksField v = false := by simpa using hsel
      rw [hsx, hks]
      exact encode_of_commandOfOp h

end Sys2Proof.Machine
end

section
/-! SUPPORT. What each event does to SV (10_state.md R42). -/

namespace Sys2Proof.Machine

open Sys2Proof

theorem endCommand_keeps_sv {s : State} (check : Option CmdError) {effect : State → State} (he : (effect s).sv = s.sv) :
    (s.endCommand check effect).sv = s.sv := by
  cases check with
  | none => exact he
  | some e => rfl

theorem endCommand_sets_sv {s : State} (check : Option CmdError) {effect : State → State} (he : (effect s).sv = true) :
    (s.endCommand check effect).sv = s.sv ∧ (s.endCommand check effect).ecode ≠ 0 ∨
      (s.endCommand check effect).sv = true ∧ (s.endCommand check effect).ecode = 0 := by
  cases check with
  | none => exact .inr ⟨he, rfl⟩
  | some e => exact .inl ⟨rfl, e.code_ne_zero⟩

/-- INIT, SETUP and CRYPT set SV exactly where they succeed. -/
theorem exec_sets_sv {i : Instr} {s t : State} (hi : i ∈ [.init, .setup, .crypt]) (h : exec i s = .next t) :
    t.sv = s.sv ∧ t.ecode ≠ 0 ∨ t.sv = true ∧ t.ecode = 0 := by
  simp only [List.mem_cons, List.not_mem_nil, or_false] at hi
  obtain rfl | rfl | rfl := hi
  · cases (exec_init s).symm.trans h
    exact .inr ⟨rfl, rfl⟩
  · cases (exec_setup s).symm.trans h
    exact endCommand_sets_sv _ rfl
  · cases (exec_crypt s).symm.trans h
    exact endCommand_sets_sv _ rfl

theorem exec_zeroize_sv {s t : State} (h : exec .zeroize s = .next t) : t.sv = false := by
  cases (exec_zeroize s).symm.trans h
  rfl

theorem exec_keeps_sv {i : Instr} {s t : State} (hi : i ∉ [.init, .setup, .crypt, .zeroize]) (h : exec i s = .next t) :
    t.sv = s.sv := by
  cases i with
  | init | setup | crypt | zeroize => simp at hi
  | nop => cases (exec_nop s).symm.trans h; rfl
  | expand0key => cases (exec_expand0key s).symm.trans h; exact endCommand_keeps_sv _ rfl
  | expandkey => cases (exec_expandkey s).symm.trans h; exact endCommand_keeps_sv _ rfl
  | expand0salt => cases (exec_expand0salt s).symm.trans h; exact endCommand_keeps_sv _ rfl
  | expandsalt => cases (exec_expandsalt s).symm.trans h; exact endCommand_keeps_sv _ rfl
  | encrypt => cases (exec_encrypt s).symm.trans h; exact endCommand_keeps_sv _ rfl
  | ecb64 => cases (exec_ecb64 s).symm.trans h; exact endCommand_keeps_sv _ rfl
  | rd addr => cases (exec_rd addr s).symm.trans h; rfl
  | wr addr v =>
    obtain ⟨-, hsv, -⟩ := writeReg_frame v s (regAt addr)
    cases (exec_wr addr v s).symm.trans h
    exact hsv

/-- R42: the two ways in which a completion step from `s` to `t` can change SV, told by the pending word. -/
def CompletionChangesSv (s t : State) : Prop :=
  (t.sv = true ∧ t.ecode = 0 ∧ (s.pending = some 0x001 ∨ s.pending = some 0x004 ∨ s.pending = some 0x006)) ∨
    (t.sv = false ∧ s.pending = some 0x007)

theorem engineStep_sv {s t : State} (h : engineStep s = .next t) : t.sv = s.sv ∨ CompletionChangesSv s t := by
  rcases engineStep_cases s with ⟨-, he⟩ | ⟨v, e, -, -, he⟩ | ⟨v, i, hp, hd, -, he⟩
  · cases he.symm.trans h
    exact .inl rfl
  · cases he.symm.trans h
    exact .inl rfl
  · rw [he] at h
    have hv := encode_of_decodeCommand hd
    by_cases hset : i ∈ [.init, .setup, .crypt]
    · obtain ⟨hkept, -⟩ | ⟨hsv, hec⟩ := exec_sets_sv hset h
      · exact .inl hkept
      · refine .inr (.inl ⟨hsv, hec, ?_⟩)
        simp only [List.mem_cons, List.not_mem_nil, or_false] at hset
        obtain rfl | rfl | rfl := hset <;> cases hv
        · exact .inl hp
        · exact .inr (.inl hp)
        · exact .inr (.inr hp)
    · by_cases hz : i = .zeroize
      · subst hz
        cases hv
        exact .inr (.inr ⟨exec_zeroize_sv h, hp⟩)
      · exact .inl (exec_keeps_sv (by simpa [hz] using hset) h)

/-- R42: the reset input clears SV, a completion step can change it, and no other event does. -/
theorem step_sv {s t : State} (h : step s = .next t) :
    t.sv = s.sv ∨ ((∃ ms, s.moves = .reset :: ms) ∧ t.sv = false) ∨
      ((s.moves = [] ∨ ∃ ms, s.moves = .engine :: ms) ∧ CompletionChangesSv s t) := by
  rcases step_cases h with ⟨hm, he⟩ | ⟨ms, hm, he⟩ | ⟨w, ms, hm, he⟩ | ⟨ms, hm, rfl⟩
  · exact (engineStep_sv he).imp_right fun hc => .inr ⟨.inl hm, hc⟩
  · exact (engineStep_sv he).imp_right fun hc => .inr ⟨.inr ⟨ms, hm⟩, hc⟩
  · refine .inl (exec_keeps_sv (s := { s with moves := ms }) ?_ he)
    rcases decodeBus_cases w with ⟨addr, hw⟩ | ⟨addr, v, hw⟩ <;> simp [hw]
  · exact .inr (.inl ⟨⟨ms, hm⟩, rfl⟩)

/-- Settles O13: of the three ways `step_sv` leaves, SV rising excludes the reset and ZEROIZE, and SV falling excludes the rest. -/
theorem svChangesOnlyAsStated : Obligations.SvChangesOnlyAsStated := by
  refine ⟨?_, ?_, ?_, fun _ _ => exec_zeroize_sv, State.resetInput_sv, ?_, fun rb _ h => readReg_windows_closed rb (.inl h)⟩
  · intro s t h hs ht
    rcases step_sv h with hkept | ⟨-, hreset⟩ | ⟨hm, ⟨-, hec, hp⟩ | ⟨hzero, -⟩⟩
    · simp [hkept, hs] at ht
    · simp [hreset] at ht
    · exact ⟨hm, hec, hp⟩
    · simp [hzero] at ht
  · intro s t h hs ht
    rcases step_sv h with hkept | ⟨hreset, -⟩ | ⟨hm, ⟨hset, -⟩ | ⟨-, hp⟩⟩
    · simp [hkept, hs] at ht
    · exact .inl hreset
    · simp [hset] at ht
    · exact .inr ⟨hm, hp⟩
  · intro i s t hi h hec
    obtain ⟨-, hne⟩ | ⟨hsv, -⟩ := exec_sets_sv hi h
    · exact absurd hec hne
    · exact hsv
  · intro i s hi h
    rw [exec_uninitialised hi h, raiseError_eq_failed]
    rfl

end Sys2Proof.Machine
end

section
/-! SUPPORT. The bytes of KEY and SALT (10_state.md R31, R34), and the KEY bytes that no command reads. -/

namespace Sys2Proof.Machine

open Sys2Proof

/-- R34: byte `m` of the key of KS = 0. -/
theorem keyBytes_getElem? (key : Vector Word 18) (n : BitVec 8) (m : Fin 72) (h : m.val < n.toNat) :
    (keyBytes key n)[m.val]? = some (Reference.keyByteAt key m) := by
  rw [keyBytes, List.getElem?_take_of_lt h, bytesOf_getElem? _ _ (by simp; omega)]
  simp [Reference.keyByteAt]

theorem saltBytes_getElem? (salt : Vector Word 4) (m : Fin 16) :
    (saltBytes salt)[m.val]? = some (Reference.saltByteAt salt m) := by
  rw [saltBytes, bytesOf_getElem? _ _ (by simp; omega)]
  simp [Reference.saltByteAt]

/-- Settles O31: the bytes of a sequence of words stand at their bits, and KEYLEN takes the first of them. -/
theorem keyAndSaltBytesAtTheirBits : Obligations.KeyAndSaltBytesAtTheirBits :=
  ⟨fun s h => keyBytes_length s.key h, fun s m h => keyBytes_getElem? s.key s.keylen m h, fun s => saltBytes_length s.salt,
    fun s m => saltBytes_getElem? s.salt m⟩

/-- R34: the key is the same bytes where the first KEYLEN bytes of KEY are; a KEYLEN above 72 takes all 72. -/
theorem keyBytes_congr {key key' : Vector Word 18} {n : BitVec 8} (h : Reference.SameKeyBytes n.toNat key key') :
    keyBytes key n = keyBytes key' n := by
  apply List.ext_getElem?
  intro m
  by_cases hm : m < 72 ∧ m < n.toNat
  · rw [keyBytes_getElem? key n ⟨m, hm.1⟩ hm.2, keyBytes_getElem? key' n ⟨m, hm.1⟩ hm.2, h ⟨m, hm.1⟩ hm.2]
  · have beyond (k : Vector Word 18) : (keyBytes k n)[m]? = none := by
      apply List.getElem?_eq_none
      simp [keyBytes]
      omega
    rw [beyond, beyond]

/-- Two states that agree in all but KEY. -/
def State.SameButKey (s t : State) : Prop := t = { s with key := t.key }

theorem State.SameButKey.of_key (s : State) (key : Vector Word 18) : s.SameButKey { s with key := key } := rfl

theorem State.SameButKey.completeWith {s t : State} (h : s.SameButKey t) (e : BitVec 4) :
    (s.completeWith e).SameButKey (t.completeWith e) := by
  unfold State.SameButKey at *
  rw [h]
  rfl

theorem State.SameButKey.endCommand {s t : State} (h : s.SameButKey t) (check : Option CmdError) {effect : State → State}
    (he : (effect s).SameButKey (effect t)) : (s.endCommand check effect).SameButKey (t.endCommand check effect) := by
  cases check with
  | none => exact he.completeWith 0
  | some e => exact h.completeWith e.code

/-- Settles O42: KEY is read through `keyOperand` alone, which is the same in both states, and no check reads KEY. -/
theorem keyBytesBeyondKeylenAreIgnored : Obligations.KeyBytesBeyondKeylenAreIgnored := by
  intro i s key hi h
  have hk : ({ s with key := key } : State).keyOperand = s.keyOperand := (keyBytes_congr h).symm
  have hsalt : ({ s with key := key } : State).saltOperand = s.saltOperand := rfl
  have hs : s.SameButKey { s with key := key } := .of_key s key
  cases i with
  | rd addr => cases hi
  | wr addr v => cases hi
  | nop => exact ⟨_, _, exec_nop _, exec_nop _, hs.completeWith 0⟩
  | init => exact ⟨_, _, exec_init _, exec_init _, rfl⟩
  | expand0key =>
    refine ⟨_, _, exec_expand0key _, exec_expand0key _, hs.endCommand s.checkExpandKey ?_⟩
    simp only [hk]
    rfl
  | expandkey =>
    refine ⟨_, _, exec_expandkey _, exec_expandkey _, hs.endCommand s.checkExpandKey ?_⟩
    simp only [hk]
    rfl
  | expand0salt =>
    refine ⟨_, _, exec_expand0salt _, exec_expand0salt _, hs.endCommand s.checkSchedule ?_⟩
    simp only [hsalt]
    rfl
  | expandsalt =>
    refine ⟨_, _, exec_expandsalt _, exec_expandsalt _, hs.endCommand s.checkSchedule ?_⟩
    simp only [hsalt]
    rfl
  | encrypt => exact ⟨_, _, exec_encrypt _, exec_encrypt _, hs.endCommand s.checkSchedule rfl⟩
  | setup =>
    refine ⟨_, _, exec_setup _, exec_setup _, hs.endCommand s.checkSetup ?_⟩
    simp only [hk]
    rfl
  | ecb64 => exact ⟨_, _, exec_ecb64 _, exec_ecb64 _, hs.endCommand s.checkSchedule rfl⟩
  | crypt =>
    refine ⟨_, _, exec_crypt _, exec_crypt _, hs.endCommand s.checkSetup ?_⟩
    simp only [hk]
    rfl
  | zeroize => exact ⟨_, _, exec_zeroize _, exec_zeroize _, rfl⟩

end Sys2Proof.Machine
end

section
/-! SUPPORT. The reset state (10_state.md R47). -/

namespace Sys2Proof.Machine

open Sys2Proof

/-- Settles O52: the fields as `State.reset` gives them, and the reads of ID and VERSION, which no state changes. -/
theorem resetValues : Obligations.ResetValues := by
  refine ⟨rfl, rfl, rfl, rfl, rfl, rfl, rfl, rfl, rfl, fun k => ?_, rfl, rfl, fun k => ?_, fun k => ?_, rfl, rfl, ?_, ?_⟩
  · exact Vector.getElem_replicate k.isLt
  · exact Vector.getElem_replicate k.isLt
  · exact Vector.getElem_replicate k.isLt
  · rw [exec_rd, regAt_id, readReg_id, idValue]
  · rw [exec_rd, regAt_version, readReg_version, versionValue]

/-- Settles O56: every flag is 0, and SV = 0 leaves nothing to show of P and S (log 1). -/
theorem invariantsHoldAtReset : Obligations.InvariantsHoldAtReset :=
  ⟨⟨nofun, nofun, .inl rfl⟩, nofun⟩

end Sys2Proof.Machine
end

section
/-! SUPPORT. The two bus transactions against the pseudocode of 20_memory.md R60 and R61: the register map and the pseudocode are split
by offset together, and each branch is the read or the write of one register. -/

namespace Sys2Proof.Machine

open Sys2Proof

/-! The words of CTRL and STATUS as numbers (R24, R25). -/

theorem setWidth_ofBool (b : Bool) : (BitVec.ofBool b).setWidth 32 = BitVec.ofNat 32 (Reference.bit b) := by cases b <;> rfl

theorem bit_le_one (b : Bool) : Reference.bit b ≤ 1 := by cases b <;> decide

theorem ctrlWord_eq_ofNat (s : State) : s.ctrlWord = BitVec.ofNat 32 (Reference.bit s.ie) := setWidth_ofBool s.ie

/-- A field placed above all the bits of a number adds its weighted value to it. -/
theorem shiftLeft_or_ofNat (x : Word) {n k : Nat} (h : n < 2 ^ k) :
    x <<< k ||| BitVec.ofNat 32 n = BitVec.ofNat 32 (x.toNat * 2 ^ k + n) := by
  have hx : x <<< k = BitVec.ofNat 32 (x.toNat <<< k) := by
    rw [← BitVec.toNat_inj, BitVec.toNat_shiftLeft, BitVec.toNat_ofNat]
  rw [hx, ← Nat.shiftLeft_eq, Nat.shiftLeft_add_eq_or_of_lt h, BitVec.ofNat_or]

theorem flag_shiftLeft_or (b : Bool) {n k : Nat} (h : n < 2 ^ k) :
    (BitVec.ofBool b).setWidth 32 <<< k ||| BitVec.ofNat 32 n = BitVec.ofNat 32 (Reference.bit b * 2 ^ k + n) := by
  rw [shiftLeft_or_ofNat _ h]
  cases b <;> rfl

/-- R25: the fields of STATUS are summed from BUSY upwards, each one above the sum of those below it. -/
theorem statusWord_eq_ofNat (s : State) :
    s.statusWord = BitVec.ofNat 32 (s.ecode.toNat * 256 + Reference.bit s.sv * 16 + Reference.bit s.bwe * 8 +
      Reference.bit s.err * 4 + Reference.bit s.done * 2 + Reference.bit s.busy) := by
  have hbusy := bit_le_one s.busy
  have hdone := bit_le_one s.done
  have herr := bit_le_one s.err
  have hbwe := bit_le_one s.bwe
  have hsv := bit_le_one s.sv
  have hecode : (s.ecode.setWidth 32).toNat = s.ecode.toNat := BitVec.toNat_setWidth_of_le (by decide)
  simp only [State.statusWord, BitVec.or_assoc]
  rw [setWidth_ofBool s.busy, flag_shiftLeft_or, flag_shiftLeft_or, flag_shiftLeft_or, flag_shiftLeft_or, shiftLeft_or_ofNat,
    hecode]
  · exact congrArg (BitVec.ofNat 32) (by omega)
  all_goals omega

/-! The pseudocode is a chain of conditions: it is met one condition at a time, with these two. -/

theorem eq_ite_of {α : Type} {P : Prop} [Decidable P] {a b c : α} (hpos : P → a = b) (hneg : ¬ P → a = c) :
    a = if P then b else c := iteInduction hpos hneg

theorem eq_dite_of {α : Type} {P : Prop} [Decidable P] {a : α} {b : P → α} {c : ¬ P → α} (hpos : ∀ h, a = b h)
    (hneg : ∀ h, a = c h) : a = dite P b c := by
  by_cases h : P
  · rw [dif_pos h, ← hpos h]
  · rw [dif_neg h, ← hneg h]

/-! Reading a register while the block is idle (R60). -/

theorem readReg_cmd (rb : Bool) (s : State) : s.readReg rb .cmd = 0 := ite_self 0

theorem readReg_cost {s : State} (rb : Bool) (h : s.busy = false) : s.readReg rb .cost = s.cost.setWidth 32 := by
  simp [State.readReg, h]

theorem readReg_keylen {s : State} (rb : Bool) (h : s.busy = false) : s.readReg rb .keylen = s.keylen.setWidth 32 := by
  simp [State.readReg, h]

theorem readReg_salt {s : State} (rb : Bool) (k : Fin 4) (h : s.busy = false) : s.readReg rb (.salt k) = s.salt[k] := by
  simp [State.readReg, h]

theorem readReg_dataL {s : State} (rb : Bool) (h : s.busy = false) : s.readReg rb .dataL = s.dataL := by
  simp [State.readReg, h]

theorem readReg_dataR {s : State} (rb : Bool) (h : s.busy = false) : s.readReg rb .dataR = s.dataR := by
  simp [State.readReg, h]

theorem readReg_ct {s : State} (rb : Bool) (k : Fin 6) (h : s.busy = false) : s.readReg rb (.ct k) = s.ct[k] := by
  simp [State.readReg, h]

/-- R60: the pseudocode of RD, branch by branch; all the branches after the one for BUSY are those of an idle block. -/
theorem readReg_regAtOffset (rb : Bool) (n : Nat) (s : State) : s.readReg rb (regAtOffset n) = Reference.rdAt rb n s := by
  unfold Reference.rdAt
  refine eq_ite_of (fun h => by rw [regAtOffset_id h, readReg_id, idValue]) fun hid => ?_
  refine eq_ite_of (fun h => by rw [regAtOffset_version h, readReg_version, versionValue]) fun hversion => ?_
  refine eq_ite_of (fun h => by rw [regAtOffset_ctrl h, readReg_ctrl, ctrlWord_eq_ofNat]) fun hctrl => ?_
  refine eq_ite_of (fun h => by rw [regAtOffset_status h, readReg_status, statusWord_eq_ofNat, State.busy]) fun hstatus => ?_
  refine eq_ite_of (fun busy => ?_) fun busy => ?_
  · exact readReg_busy rb _ busy (regAtOffset_unansweredWhileBusy (by simp [hid, hversion, hctrl, hstatus]))
  have idle : s.busy = false := Bool.eq_false_of_not_eq_true busy
  refine eq_ite_of (fun h => by rw [regAtOffset_cmd h, readReg_cmd]) fun hcmd => ?_
  refine eq_ite_of (fun h => by rw [regAtOffset_cost h, readReg_cost rb idle, BitVec.ofNat_toNat]) fun hcost => ?_
  refine eq_ite_of (fun h => by rw [regAtOffset_keylen h, readReg_keylen rb idle, BitVec.ofNat_toNat]) fun hkeylen => ?_
  refine eq_dite_of (fun h => ?_) fun hsalt => ?_
  · rw [regAtOffset_salt h, ofNat_offset ⟨(n - 0x020) / 4, by omega⟩ rfl, readReg_salt rb _ idle, Fin.getElem_fin]
  refine eq_ite_of (fun h => by rw [regAtOffset_dataL h, readReg_dataL rb idle]) fun hdataL => ?_
  refine eq_ite_of (fun h => by rw [regAtOffset_dataR h, readReg_dataR rb idle]) fun hdataR => ?_
  refine eq_dite_of (fun h => ?_) fun hct => ?_
  · rw [regAtOffset_ct h, ofNat_offset ⟨(n - 0x040) / 4, by omega⟩ rfl, readReg_ct rb _ idle, Fin.getElem_fin]
  refine eq_dite_of (fun h => ?_) fun hkey => ?_
  · rw [regAtOffset_key h, ofNat_offset ⟨(n - 0x080) / 4, by omega⟩ rfl, readReg_key]
    simp [idle]
  refine eq_dite_of (fun h => ?_) fun hpwin => ?_
  · rw [regAtOffset_pwin h, ofNat_offset ⟨(n - 0x1000) / 4, by omega⟩ rfl, readReg_pwin]
    simp [idle]
  refine eq_dite_of (fun h => ?_) fun hswin => ?_
  · rw [regAtOffset_swin h, ofNat_offset ⟨(n - 0x2000) / 4 / 256, by omega⟩ rfl,
      ofNat_offset ⟨(n - 0x2000) / 4 % 256, by omega⟩ rfl, readReg_swin]
    simp [idle, BlowfishState.sAt]
  rw [regAtOffset_reserved (by unfold offsetNamed; omega), readReg_reserved]

/-- Settles O18: the value of the pseudocode at the offset that the address has. -/
theorem readTransactionReturns : Obligations.ReadTransactionReturns := by
  intro addr s
  rw [exec_rd, regAt_off, readReg_regAtOffset, Reference.rdValue]

/-! Writing a register while the block is idle (R61). -/

theorem writeReg_cmd {s : State} (v : Word) (h : s.busy = false) : s.writeReg v .cmd = s.accept v := by
  simp [State.writeReg, h]

theorem writeReg_cost {s : State} (v : Word) (h : s.busy = false) : s.writeReg v .cost = { s with cost := v.setWidth 8 } := by
  simp [State.writeReg, h]

theorem writeReg_keylen {s : State} (v : Word) (h : s.busy = false) :
    s.writeReg v .keylen = { s with keylen := v.setWidth 8 } := by
  simp [State.writeReg, h]

theorem writeReg_salt {s : State} (v : Word) (k : Fin 4) (h : s.busy = false) :
    s.writeReg v (.salt k) = { s with salt := s.salt.set k v } := by
  simp [State.writeReg, h]

theorem writeReg_dataL {s : State} (v : Word) (h : s.busy = false) : s.writeReg v .dataL = { s with dataL := v } := by
  simp [State.writeReg, h]

theorem writeReg_dataR {s : State} (v : Word) (h : s.busy = false) : s.writeReg v .dataR = { s with dataR := v } := by
  simp [State.writeReg, h]

/-- R61: the pseudocode of WR, branch by branch. It names SALT and DATA by one range, so the offset has to be a multiple of 4: the
map has no register at 0x02D to 0x02F. -/
theorem writeReg_regAtOffset {n : Nat} (h4 : n % 4 = 0) (v : Word) (s : State) :
    s.writeReg v (regAtOffset n) = Reference.wrAt n v s := by
  unfold Reference.wrAt
  refine eq_ite_of (fun h => by rw [regAtOffset_ctrl h, writeReg_ctrl, State.writeCtrl]) fun hctrl => ?_
  refine eq_ite_of (fun h => ?_) fun hstatus => ?_
  · rw [regAtOffset_status h, writeReg_status, State.clearSticky]
    simp [Bool.and_comm]
  refine eq_ite_of (fun hoperand => ?_) fun hother => ?_
  · refine eq_ite_of (fun busy => ?_) fun busy => ?_
    · rw [writeReg_dropped v busy (regAtOffset_droppedWhileBusy ?_), State.dropWrite]
      simp only [List.mem_cons, List.not_mem_nil, or_false]
      omega
    have idle : s.busy = false := Bool.eq_false_of_not_eq_true busy
    refine eq_ite_of (fun h => by rw [regAtOffset_cmd h, writeReg_cmd v idle, State.accept]) fun hcmd => ?_
    refine eq_ite_of (fun h => by rw [regAtOffset_cost h, writeReg_cost v idle, BitVec.ofNat_toNat]) fun hcost => ?_
    refine eq_ite_of (fun h => by rw [regAtOffset_keylen h, writeReg_keylen v idle, BitVec.ofNat_toNat]) fun hkeylen => ?_
    refine eq_dite_of (fun h => ?_) fun hsalt => ?_
    · rw [regAtOffset_salt h, ofNat_offset ⟨(n - 0x020) / 4, by omega⟩ rfl, writeReg_salt v _ idle]
    refine eq_ite_of (fun h => by rw [regAtOffset_dataL h, writeReg_dataL v idle]) fun hdataL => ?_
    refine eq_ite_of (fun h => by rw [regAtOffset_dataR h, writeReg_dataR v idle]) fun hdataR => ?_
    refine eq_dite_of (fun h => ?_) fun hkey => ?_
    · rw [regAtOffset_key h, ofNat_offset ⟨(n - 0x080) / 4, by omega⟩ rfl, writeReg_key v _ (s.not_busy_iff.1 idle)]
    omega
  · apply writeReg_regAtOffset_ignored
    by_cases hn : offsetNamed n
    · unfold offsetNamed at hn
      simp only [List.mem_cons, List.not_mem_nil, or_false]
      omega
    · simp [regAtOffset_reserved hn]

/-- Settles O19: an offset is a multiple of 4, so the write is that of the pseudocode. -/
theorem writeTransactionStores : Obligations.WriteTransactionStores := by
  intro addr v s
  have h4 : Reference.off addr % 4 = 0 := Nat.mul_mod_left _ _
  rw [exec_wr, regAt_off, writeReg_regAtOffset h4, Reference.wrState]

/-- Settles O20: both transactions depend on the address through its register alone, and bits 1:0 do not choose the register. -/
theorem subWordAddressBitsAreIgnored : Obligations.SubWordAddressBitsAreIgnored := by
  intro addr addr' v s h
  have hreg : regAt addr = regAt addr' := by rw [regAt, regAt, offsetOf_eq, offsetOf_eq, h]
  exact ⟨by rw [exec_rd, exec_rd, hreg], by rw [exec_wr, exec_wr, hreg]⟩

/-- Settles O27: a read writes rdata, on which no read depends. -/
theorem readsAreIdempotent : Obligations.ReadsAreIdempotent := by
  intro addr s
  exact ⟨_, exec_rd addr s, rfl, by rw [exec_rd, readReg_rdata (v := s.readReg Config.secretReadback (regAt addr))]⟩

end Sys2Proof.Machine
end

section
/-! SUPPORT. A transaction packed by its sender is the one that arrives (30_encoding.md R84; 20_memory.md R62). -/

namespace Sys2Proof.Machine

open Sys2Proof

/-- R84: the three signals are adjacent, so each is read back from its bits. -/
theorem decodeBus_busWord (we : Bool) (addr : BitVec 14) (data : Word) :
    decodeBus (busWord we addr data) = if we then .wr addr data else .rd addr := by
  have hwe : (busWord we addr data).getLsbD 46 = we := by
    rw [busWord, BitVec.getLsbD_append, if_neg (by decide), BitVec.getLsbD_append, if_neg (by decide)]
    simp
  have haddr : (busWord we addr data).extractLsb' 32 14 = addr := by
    rw [busWord, BitVec.extractLsb'_append_eq_of_le le_rfl]
    exact BitVec.extractLsb'_append_eq_right
  have hdata : (busWord we addr data).extractLsb' 0 32 = data := BitVec.extractLsb'_append_eq_right
  rw [decodeBus, hwe, haddr, hdata]

theorem inWindow_iff (base : Nat) (a : PlatformAccess) : a.inWindow base = true ↔ base ≤ a.addr ∧ a.addr < base + 0x4000 := by
  simp [PlatformAccess.inWindow]

theorem moveAt_inside {base : Nat} {a : PlatformAccess} (h : a.inWindow base = true) :
    moveAt base a = some (match a.size with
      | .word => .bus (portWord base a)
      | .narrow z => .narrowBus z (portWord base a)) := if_pos h

theorem moveAt_outside {base : Nat} {a : PlatformAccess} (h : ¬ a.inWindow base = true) : moveAt base a = none := if_neg h

theorem base_aligned : Config.base % 0x4000 = 0 := by
  unfold Config.base
  omega

/-- Settles O29: the word is the one packed at the address minus BASE, which the window holds below 0x4000. -/
theorem platformAccessReachesItsOffset : Obligations.PlatformAccessReachesItsOffset := by
  refine ⟨fun a offset haddr hlt => ⟨portWord Config.base a, ?_, ?_⟩, fun a hout => ?_, base_aligned⟩
  · rw [portWord, decodeBus_busWord, haddr, Nat.add_sub_cancel_left]
  · exact moveAt_inside ((inWindow_iff _ a).2 (by omega))
  · exact moveAt_outside (mt (inWindow_iff _ a).1 (by omega))

end Sys2Proof.Machine
end

section
/-! SUPPORT. What a step runs, and that only a narrow access stops it (20_memory.md R67, R69, R71). -/

namespace Sys2Proof.Machine

open Sys2Proof

theorem decodeCommand_of_encode {i : Instr} (hi : i.isCommand = true) : ∃ v, encode i = .command v ∧ decodeCommand v = .ok i := by
  cases i with
  | rd | wr => cases hi
  | _ => exact ⟨_, rfl, rfl⟩

theorem decodeBus_of_encode {i : Instr} (hi : i.isCommand = false) : ∃ t, encode i = .bus t ∧ decodeBus t = i := by
  cases i with
  | rd addr => exact ⟨_, rfl, decodeBus_busWord false addr 0⟩
  | wr addr v => exact ⟨_, rfl, decodeBus_busWord true addr v⟩
  | _ => cases hi

/-! The placing of an instruction (log 15): the width of its row tells the format. -/

theorem withFetchWord_command (s : State) (v : Word) : s.withFetchWord 32 v.toNat = { s.accept v with moves := .engine :: s.moves } := by
  simp [State.withFetchWord, encodedOfBits, State.withEncoded]

theorem withFetchWord_bus (s : State) (t : BitVec 47) : s.withFetchWord 48 t.toNat = { s with moves := .bus t :: s.moves } := by
  simp [State.withFetchWord, encodedOfBits, State.withEncoded]

theorem step_bus {s : State} {t : BitVec 47} {ms : List Move} (h : s.moves = .bus t :: ms) :
    step s = exec (decodeBus t) { s with moves := ms } := by
  rw [step_cons h, serveMove, busStep]

theorem step_engine {s : State} {v : Word} {i : Instr} {ms : List Move} (h : s.moves = .engine :: ms) (hp : s.pending = some v)
    (hd : decodeCommand v = .ok i) : step s = exec i { s with moves := ms } := by
  rw [step_cons h, serveMove, engineStep_ok (s := { s with moves := ms }) hp hd]

/-- Settles O6: the first two clauses are the two events that run an instruction; the last two place one, which decodes back. -/
theorem stepRunsTheDecodedInstruction : Obligations.StepRunsTheDecodedInstruction := by
  refine ⟨fun s t ms h => step_bus h, fun s v i ms h hp hd => step_engine h hp hd, fun s i _ hi => ?_, fun s i _ hi => ?_⟩
  · obtain ⟨v, he, hd⟩ := decodeCommand_of_encode hi
    refine ⟨v, he, ?_⟩
    rw [withFetchWord_command]
    exact step_engine rfl rfl hd
  · obtain ⟨t, he, hd⟩ := decodeBus_of_encode hi
    refine ⟨t, he, ?_⟩
    rw [withFetchWord_bus, step_bus rfl, hd]

/-- An instruction runs in every state and takes no event. -/
theorem exec_next_moves (i : Instr) (s : State) : ∃ t, exec i s = .next t ∧ t.moves = s.moves := by
  cases hi : i.isCommand with
  | true =>
    obtain ⟨check, effect, he, frame⟩ := exec_command i s hi
    obtain ⟨-, -, -, hmoves, -⟩ := frame s
    refine ⟨_, he, ?_⟩
    rcases endCommand_cases s check effect with ⟨e, -, h⟩ | ⟨-, h⟩
    · rw [h, State.raiseError_moves]
    · rw [h, State.complete_moves, hmoves]
  | false =>
    cases i with
    | rd addr => exact ⟨_, exec_rd addr s, rfl⟩
    | wr addr v =>
      obtain ⟨-, -, -, -, hmoves, -⟩ := writeReg_frame v s (regAt addr)
      exact ⟨_, exec_wr addr v s, hmoves⟩
    | _ => cases hi

theorem engineStep_next_moves (s : State) : ∃ t, engineStep s = .next t ∧ t.moves = s.moves := by
  rcases engineStep_cases s with ⟨-, he⟩ | ⟨-, -, -, -, he⟩ | ⟨-, i, -, -, -, he⟩
  · exact ⟨s, he, rfl⟩
  · exact ⟨_, he, rfl⟩
  · rw [he]
    exact exec_next_moves i s

/-- R67, R69: serving an event gives a next state, unless the event is a narrow access. -/
theorem serveMove_next_moves (s : State) {m : Move} (hm : ∀ z w, m ≠ .narrowBus z w) :
    ∃ t, serveMove m s = .next t ∧ t.moves = s.moves := by
  cases m with
  | bus t => exact exec_next_moves (decodeBus t) s
  | narrowBus z w => exact absurd rfl (hm z w)
  | engine => exact engineStep_next_moves s
  | reset => exact ⟨s.resetInput, rfl, s.resetInput_moves⟩

theorem wordAccessesOnly_iff (s : State) : s.wordAccessesOnly = true ↔ ∀ z w, .narrowBus z w ∉ s.moves := by
  rw [State.wordAccessesOnly, List.all_eq_true]
  constructor
  · intro h z w hmem
    cases h _ hmem
  · intro h m hmem
    cases m with
    | narrowBus z w => exact absurd hmem (h z w)
    | bus | engine | reset => rfl

/-- One step serves the first event to come, if there is one. -/
theorem step_next_moves {s : State} (h : s.wordAccessesOnly = true) : ∃ t, step s = .next t ∧ t.moves = s.moves.tail := by
  rw [wordAccessesOnly_iff] at h
  cases hm : s.moves with
  | nil =>
    obtain ⟨t, ht, hmoves⟩ := engineStep_next_moves s
    exact ⟨t, by rw [step_nil hm, ht], by rw [hmoves, hm, List.tail_nil]⟩
  | cons m ms =>
    rw [step_cons hm]
    exact serveMove_next_moves _ fun z w hnarrow => h z w (by simp [hm, hnarrow])

/-- Settles O28: such a step leaves the tail of the events, which holds no narrow access either, and a narrow access is refused when served. -/
theorem onlyNarrowAccessesAreRefused : Obligations.OnlyNarrowAccessesAreRefused := by
  refine ⟨fun s h => ?_, fun s z w ms h => ?_⟩
  · obtain ⟨t, ht, hmoves⟩ := step_next_moves h
    rw [wordAccessesOnly_iff] at h
    refine ⟨t, ht, (wordAccessesOnly_iff t).2 fun z w hmem => h z w ?_⟩
    exact List.mem_of_mem_tail (hmoves ▸ hmem)
  · rw [step_cons h, serveMove]

end Sys2Proof.Machine
end

section
/-! SUPPORT. The two formats and their decoders (30_encoding.md R80 to R89): the encoder is the decoder's inverse, so the legal words are
the encoded commands and the illegal ones those that no command encodes to. -/

namespace Sys2Proof.Machine

open Sys2Proof

/-! Decoding what was encoded (R81, R84). -/

theorem decode_encode (i : Instr) : decode (encode i) = .ok i := by
  cases hi : i.isCommand with
  | true =>
    obtain ⟨v, he, hd⟩ := decodeCommand_of_encode hi
    rw [he, decode, hd]
  | false =>
    obtain ⟨t, he, hd⟩ := decodeBus_of_encode hi
    rw [he, decode, hd]

/-- The width of a row tells its format back (log 15), and the row's bits are the word. -/
theorem encodedOfTable_nbits_bits (e : Encoded) : encodedOfTable e.nbits e.bits = some e := by
  cases e with
  | command v => simp [encodedOfTable, Encoded.nbits, Encoded.bits, v.isLt]
  | bus t => simp [encodedOfTable, Encoded.nbits, Encoded.bits, t.isLt]

theorem decodeTableWord_encode (i : Instr) : decodeTableWord (encode i).nbits (encode i).bits = some i := by
  rw [decodeTableWord, encodedOfTable_nbits_bits]
  exact congrArg Except.toOption (decode_encode i)

/-- Settles O4: encoding then decoding, in either numbering of the bits; a read takes no data from its word. -/
theorem decodeOfEncodeIsTheInstruction : Obligations.DecodeOfEncodeIsTheInstruction :=
  ⟨fun i _ => ⟨decode_encode i, decodeTableWord_encode i⟩, decodeBus_busWord false⟩

/-! The legal command words (R86). -/

theorem decodeCommand_eq_ok_iff (v : Word) (i : Instr) : decodeCommand v = .ok i ↔ encode i = .command v := by
  refine ⟨encode_of_decodeCommand, fun h => ?_⟩
  have hd := decode_encode i
  rwa [h, decode] at hd

theorem encode_of_mem_legalWords : ∀ row ∈ Reference.legalWords, encode row.2 = .command row.1 := by decide

/-- R86: the rows of the table are the eleven commands with their words. -/
theorem encode_eq_command_iff (v : Word) (i : Instr) : encode i = .command v ↔ (v, i) ∈ Reference.legalWords := by
  refine ⟨fun h => ?_, encode_of_mem_legalWords (v, i)⟩
  cases i with
  | rd | wr => cases h
  | _ => cases h; decide

/-- Settles O2: the decoder reads `i` from the word that encodes `i` alone, and those words are the table's. -/
theorem legalCommandWordsAreExactlyTheTable : Obligations.LegalCommandWordsAreExactlyTheTable := fun v i =>
  (decodeCommand_eq_ok_iff v i).trans (encode_eq_command_iff v i)

/-- Settles O1: the command words stand in the table, and the other three words are what their instructions encode to. -/
theorem writtenOutWordsDecode : Obligations.WrittenOutWordsDecode := by
  have legal {v : Word} {i : Instr} : (v, i) ∈ Reference.legalWords → decodeCommand v = .ok i :=
    (legalCommandWordsAreExactlyTheTable v i).2
  exact ⟨legal (by decide), legal (by decide), legal (by decide), legal (by decide), decodeTableWord_encode .crypt,
    decodeTableWord_encode (.rd 0x00C), decodeTableWord_encode (.wr 0x014 0x0000000C)⟩

/-! The illegal command words (R88). -/

theorem rsvSet_iff (v : Word) : rsvSet v = true ↔ v.extractLsb' 10 22 ≠ 0 ∨ v.extractLsb' 4 4 ≠ 0 := by
  simp [rsvSet]

theorem commandOfOp_error_iff {op : BitVec 4} (h : op ≠ 2) : (∃ e, commandOfOp op = .error e) ↔ 8 ≤ op.toNat := by
  have hne : op.toNat ≠ 2 := BitVec.toNat_ne_iff_ne.2 h
  unfold commandOfOp
  split
  case h_8 =>
    simp only [imp_false] at *
    exact iff_of_true ⟨_, rfl⟩ (by omega)
  all_goals exact iff_of_false nofun (by omega)

/-- R88: the decoder's branches in order; the first and the third are refusals, and the last refuses by OP alone. -/
theorem decodeCommand_error_iff (v : Word) : (∃ e, decodeCommand v = .error e) ↔ Reference.Illegal v := by
  unfold decodeCommand Reference.Illegal
  rw [← rsvSet_iff, ← opField, ← sxField, ← ksField]
  split
  next hrsv => exact iff_of_true ⟨_, rfl⟩ (.inl hrsv)
  next hrsv =>
    split
    next hop => simp [hrsv, hop]
    next hop =>
      split
      next hsel => exact iff_of_true ⟨_, rfl⟩ (.inr (.inr ⟨BitVec.toNat_ne_iff_ne.2 hop, by simpa using hsel⟩))
      next hsel =>
        obtain ⟨hsx, hks⟩ : sxField v = false ∧ ksField v = false := by simpa using hsel
        simp [commandOfOp_error_iff hop, hrsv, hsx, hks]

/-- R161: a write of CMD while BUSY = 0 is accepted, whatever the word. -/
theorem exec_wr_cmd {addr : BitVec 14} {s : State} (v : Word) (ho : Reference.off addr = 0x010) (hp : s.pending = none) :
    exec (.wr addr v) s = .next (s.accept v) := by
  rw [exec_wr, regAt_off, regAtOffset_cmd ho, writeReg_cmd v (s.not_busy_iff.2 hp)]

theorem step_engine_illegal {s : State} {v : Word} {e : DecodeError} {ms : List Move} (h : s.moves = .engine :: ms)
    (hp : s.pending = some v) (hd : decodeCommand v = .error e) : step s = .next (Reference.failed 4 { s with moves := ms }) := by
  rw [step_cons h, serveMove, engineStep_illegal (s := { s with moves := ms }) hp hd, raiseError_eq_failed, CmdError.code]

/-- Settles O3: the decoder's refusals are R88's three ways, acceptance does not look at the word, and the completion step of a refused
word raises code 4. -/
theorem illegalWordsCompleteWithCode4 : Obligations.IllegalWordsCompleteWithCode4 := by
  refine ⟨decodeCommand_error_iff, fun v addr s _ hp ho => exec_wr_cmd v ho hp, fun v s ms hv hp hm => ?_⟩
  obtain ⟨e, hd⟩ := (decodeCommand_error_iff v).2 hv
  exact step_engine_illegal hm hp hd

/-! A packed transaction (R84). -/

/-- The top bit of a word of 47 bits is its quotient by 2 ^ 46. -/
theorem getLsbD_46_iff (t : BitVec 47) : t.getLsbD 46 = true ↔ t.toNat / 2 ^ 46 = 1 := by
  have := t.isLt
  rw [BitVec.getLsbD, Nat.testBit_eq_decide_div_mod_eq, decide_eq_true_iff]
  omega

theorem extractLsb'_eq_ofNat {w : Nat} (x : BitVec w) (start len : Nat) :
    x.extractLsb' start len = BitVec.ofNat len (x.toNat / 2 ^ start) := by
  rw [BitVec.extractLsb', Nat.shiftRight_eq_div_pow]

/-- Settles O5: each field of the decoder is the quotient of the word's value by the power of 2 at which it stands. -/
theorem busFieldsByPosition : Obligations.BusFieldsByPosition := by
  intro t
  simp only [decodeBus, getLsbD_46_iff, extractLsb'_eq_ofNat, pow_zero, Nat.div_one]

end Sys2Proof.Machine
end

section
/-! SUPPORT. SETUP, ECB64 and CRYPT where their checks pass, and CRYPT as the first two in a row (30_encoding.md R85; 42_bcrypt_ecb.md
R154). -/

namespace Sys2Proof.Machine

open Sys2Proof

theorem checkSetup_passes {s : State} (hc : 4 ≤ s.cost.toNat ∧ s.cost.toNat ≤ 31) (hk : 1 ≤ s.keylen.toNat ∧ s.keylen.toNat ≤ 72) :
    s.checkSetup = none :=
  (checkSetup_none_iff s).2 ⟨(costLegal_iff _).2 hc, (keylenLegal_iff _).2 hk⟩

theorem exec_setup_passes {s : State} (h : s.checkSetup = none) :
    exec .setup s = .next { s with bf := eksSetup s.cost.toNat s.salt s.keyOperand, sv := true }.complete := by
  rw [exec_setup, h, endCommand_none]

theorem exec_crypt_passes {s : State} (h : s.checkSetup = none) :
    exec .crypt s = .next (State.complete
      { s with
        bf := eksSetup s.cost.toNat s.salt s.keyOperand
        sv := true
        ct := ecb64core (eksSetup s.cost.toNat s.salt s.keyOperand) }) := by
  rw [exec_crypt, h, endCommand_none]

theorem exec_ecb64_passes {s : State} (h : s.sv = true) : exec .ecb64 s = .next { s with ct := ecb64core s.bf }.complete := by
  rw [exec_ecb64, (checkSchedule_none_iff s).2 h, endCommand_none]

theorem after_eq {i : Instr} {s t : State} (h : exec i s = .next t) : Reference.after i s = t := by
  rw [Reference.after, h]

/-- Settles O48: SETUP and CRYPT leave the same schedule with SV = 1, so ECB64 after either passes its check and digests that schedule. -/
theorem cryptIsSetupThenEcb64 : Obligations.CryptIsSetupThenEcb64 := by
  intro s hc4 hc31 hk1 hk72
  have passes := checkSetup_passes ⟨hc4, hc31⟩ ⟨hk1, hk72⟩
  rw [after_eq (exec_setup_passes passes), after_eq (exec_crypt_passes passes), exec_crypt_passes passes, exec_ecb64_passes rfl,
    exec_ecb64_passes rfl]
  exact ⟨rfl, rfl⟩

end Sys2Proof.Machine
end

section
/-! SUPPORT. The F-function as arithmetic, INIT's constants word by word, and ENCRYPT where its check passes (40_blowfish.md R102 to R110). -/

namespace Sys2Proof.Machine

open Sys2Proof

/-! The value of F (R103, R104). -/

/-- R103: a byte of a word, as the index of an S-box, is the digit of the word's value in base 256. -/
theorem byteIndex_eq {x : Word} {start : Nat} {i : Fin 256} (h : i.val = x.toNat / 2 ^ start % 256) :
    (x.extractLsb' start 8).toFin = i := by
  ext
  rw [BitVec.val_toFin, extractLsb'_eq_ofNat, BitVec.toNat_ofNat, h]

/-- R104: F on any four indexes that are the bytes of the word, its additions modulo 2^32. -/
theorem feistelF_toNat (b : BlowfishState) {x : Word} {i0 i1 i2 i3 : Fin 256} (h0 : i0.val = x.toNat / 2 ^ 24 % 256)
    (h1 : i1.val = x.toNat / 2 ^ 16 % 256) (h2 : i2.val = x.toNat / 2 ^ 8 % 256) (h3 : i3.val = x.toNat / 2 ^ 0 % 256) :
    (feistelF b x).toNat =
      ((((b.sAt 0 i0).toNat + (b.sAt 1 i1).toNat) % 2 ^ 32 ^^^ (b.sAt 2 i2).toNat) + (b.sAt 3 i3).toNat) % 2 ^ 32 := by
  rw [feistelF, byteIndex_eq h0, byteIndex_eq h1, byteIndex_eq h2, byteIndex_eq h3, BitVec.toNat_add, BitVec.toNat_xor,
    BitVec.toNat_add]

/-- Settles O34: the top digit of a 32-bit value needs no reduction, and the bottom one no shift. -/
theorem feistelFunctionValue : Obligations.FeistelFunctionValue := by
  intro b x i0 i1 i2 i3 h0 h1 h2 h3
  have hx := x.isLt
  exact feistelF_toNat b (by omega) h1 h2 (by omega)

/-! The constants that INIT loads (R102). -/

theorem piP_getElem (n : Nat) (h : n < 18) : piState.p[n] = piw n := by
  have hl := piRomP_length
  rw [piw, piRom, List.append_assoc, List.append_assoc, List.append_assoc, List.getD_append _ _ _ _ (by omega)]
  exact box_getElem piRomP _ n h

theorem piS_getElem (j : Fin 4) (n : Fin 256) : piState.s[j][n] = piw (18 + 256 * j.val + n.val) := by
  match j with
  | 0 => exact piS0_getElem n.val n.isLt
  | 1 => exact piS1_getElem n.val n.isLt
  | 2 => exact piS2_getElem n.val n.isLt
  | 3 => exact piS3_getElem n.val n.isLt

theorem complete_eq_succeeded (s : State) : s.complete = Reference.succeeded s := rfl

/-- Settles O36: INIT loads the store, whose words are read at their indexes by the lemmas above. -/
theorem initLoadsTheConstants : Obligations.InitLoadsTheConstants := fun s =>
  ⟨piState, by rw [exec_init, complete_eq_succeeded], fun i => piP_getElem i.val i.isLt, piS_getElem⟩

/-! ENCRYPT (R110). -/

theorem exec_encrypt_passes {s : State} (h : s.sv = true) :
    exec .encrypt s = .next (State.complete
      { s with dataL := (encipher s.bf (s.dataL, s.dataR)).1, dataR := (encipher s.bf (s.dataL, s.dataR)).2 }) := by
  rw [exec_encrypt, (checkSchedule_none_iff s).2 h, endCommand_none]

/-- Settles O37: the one check of ENCRYPT is that of SV. -/
theorem encryptEnciphersTheBlock : Obligations.EncryptEnciphersTheBlock := by
  refine fun s => ⟨fun h => ?_, fun h => ?_⟩
  · rw [exec_encrypt_passes h, complete_eq_succeeded]
  · rw [exec_uninitialised (by decide) h, raiseError_eq_failed, CmdError.code]

end Sys2Proof.Machine
end

section
/-! SUPPORT. The key stream (41_eksblowfish.md R120), the salt in ExpandKey (R122), and the four EXPAND commands and SETUP where their
checks pass (R126 to R132). -/

namespace Sys2Proof.Machine

open Sys2Proof

/-- Settles O32: a word's value is its four digits, and a stream position taken modulo the length lies inside a nonempty key. -/
theorem keyStreamIsCyclic : Obligations.KeyStreamIsCyclic := by
  intro k i hk _ _
  exact ⟨keyByte k (4 * i), keyByte k (4 * i + 1), keyByte k (4 * i + 2), keyByte k (4 * i + 3),
    keyByte_getElem? k _ hk, keyByte_getElem? k _ hk, keyByte_getElem? k _ hk, keyByte_getElem? k _ hk, be32_toNat _ _ _ _⟩

/-! The salt of an ExpandKey (R122). -/

theorem saltHalf_zero {salt : Vector Word 4} (hz : ∀ k : Fin 4, salt[k] = 0) (h : Bool) : saltHalf salt h = (0, 0) := by
  cases h with
  | false => exact Prod.ext (hz 0) (hz 1)
  | true => exact Prod.ext (hz 2) (hz 3)

/-- R122: "XOR with zero is the identity". -/
theorem Work.step_zero_salt {salt : Vector Word 4} (hz : ∀ k : Fin 4, salt[k] = 0) (w : Work) :
    w.step true salt = w.step false salt := by
  simp [Work.step, saltHalf_zero hz]

theorem Work.step_no_salt (salt salt' : Vector Word 4) (w : Work) : w.step false salt = w.step false salt' := rfl

/-- ExpandKey takes `sx` and the salt to its steps alone. -/
theorem expandKey_congr {sx sx' : Bool} {salt salt' : Vector Word 4} (h : ∀ w : Work, w.step sx salt = w.step sx' salt')
    (k : List Byte) (b : BlowfishState) : expandKey sx salt k b = expandKey sx' salt' k b := by
  simp only [expandKey, Work.replaceP, Work.replaceS, h]

theorem expandKey_zero_salt {salt : Vector Word 4} (hz : ∀ k : Fin 4, salt[k] = 0) (k : List Byte) (b : BlowfishState) :
    expandKey true salt k b = expandKey false salt k b :=
  expandKey_congr (Work.step_zero_salt hz) k b

theorem endCommand_congr {s : State} (check : Option CmdError) {effect effect' : State → State} (h : effect s = effect' s) :
    s.endCommand check effect = s.endCommand check effect' := by
  cases check with
  | none => rw [endCommand_none, endCommand_none, h]
  | some e => rfl

/-- Settles O41: a step with a zero salt is a step without one, and the two commands make the same check. -/
theorem zeroSaltIsNoSalt : Obligations.ZeroSaltIsNoSalt := by
  refine ⟨fun _ key b hz => expandKey_zero_salt hz key b,
    fun salt salt' key b => expandKey_congr (Work.step_no_salt salt salt') key b, fun s hz => ?_⟩
  rw [exec_expandkey, exec_expand0key]
  refine congrArg _ (endCommand_congr s.checkExpandKey ?_)
  simp only [expandKey_zero_salt hz]

/-! The EXPAND commands (R126 to R129). -/

theorem checkExpandKey_passes {s : State} (h : s.sv = true) (hk : 1 ≤ s.keylen.toNat ∧ s.keylen.toNat ≤ 72) :
    s.checkExpandKey = none :=
  (checkExpandKey_none_iff s).2 ⟨h, (keylenLegal_iff _).2 hk⟩

theorem exec_expand0key_passes {s : State} (h : s.checkExpandKey = none) :
    exec .expand0key s = .next { s with bf := expandKey false s.salt s.keyOperand s.bf }.complete := by
  rw [exec_expand0key, h, endCommand_none]

theorem exec_expandkey_passes {s : State} (h : s.checkExpandKey = none) :
    exec .expandkey s = .next { s with bf := expandKey true s.salt s.keyOperand s.bf }.complete := by
  rw [exec_expandkey, h, endCommand_none]

theorem exec_expand0salt_passes {s : State} (h : s.sv = true) :
    exec .expand0salt s = .next { s with bf := expandKey false s.salt s.saltOperand s.bf }.complete := by
  rw [exec_expand0salt, (checkSchedule_none_iff s).2 h, endCommand_none]

theorem exec_expandsalt_passes {s : State} (h : s.sv = true) :
    exec .expandsalt s = .next { s with bf := expandKey true s.salt s.saltOperand s.bf }.complete := by
  rw [exec_expandsalt, (checkSchedule_none_iff s).2 h, endCommand_none]

/-- `exec_uninitialised` in the terms of the statements. -/
theorem exec_uninitialised_failed {i : Instr} {s : State}
    (hi : i ∈ [.expand0key, .expandkey, .expand0salt, .expandsalt, .encrypt, .ecb64]) (h : s.sv = false) : exec i s = .next (Reference.failed 5 s) := by
  rw [exec_uninitialised hi h, raiseError_eq_failed, CmdError.code]

/-- Settles O39: SV is checked first, KEYLEN second, and a command that passes both stores its ExpandKey. -/
theorem expandWithTheKeyRegister : Obligations.ExpandWithTheKeyRegister := by
  refine fun s => ⟨fun h hk1 hk72 => ?_,
    fun h => ⟨exec_uninitialised_failed (by decide) h, exec_uninitialised_failed (by decide) h⟩, fun h hk => ?_⟩
  · have passes := checkExpandKey_passes h ⟨hk1, hk72⟩
    rw [exec_expand0key_passes passes, exec_expandkey_passes passes, complete_eq_succeeded, complete_eq_succeeded]
    exact ⟨rfl, rfl⟩
  · rw [exec_expand0key, exec_expandkey, checkExpandKey_keylen h hk, endCommand_some, endCommand_some, raiseError_eq_failed, CmdError.code]
    exact ⟨rfl, rfl⟩

/-- Settles O40: the one check of both commands is that of SV. -/
theorem expandWithTheSaltAsKey : Obligations.ExpandWithTheSaltAsKey := by
  refine fun s => ⟨fun h => ?_, fun h => ⟨exec_uninitialised_failed (by decide) h, exec_uninitialised_failed (by decide) h⟩⟩
  rw [exec_expand0salt_passes h, exec_expandsalt_passes h, complete_eq_succeeded, complete_eq_succeeded]
  exact ⟨rfl, rfl⟩

/-! SETUP (R131, R132). -/

theorem rekey_eq (s : State) :
    rekey s.salt s.keyOperand = fun b => expandKey false s.salt s.saltOperand (expandKey false s.salt s.keyOperand b) := rfl

/-- Settles O43: COST is checked first, KEYLEN second, and a SETUP that passes both iterates the rekeying. -/
theorem setupRunsTheKeySchedule : Obligations.SetupRunsTheKeySchedule := by
  refine fun s => ⟨fun hc4 hc31 hk1 hk72 => ?_, fun hc => ?_, fun hc4 hc31 hk => ?_⟩
  · rw [exec_setup_passes (checkSetup_passes ⟨hc4, hc31⟩ ⟨hk1, hk72⟩), complete_eq_succeeded, eksSetup_eq, rekey_eq]
  · rw [exec_setup, checkSetup_cost hc, endCommand_some, raiseError_eq_failed, CmdError.code]
  · rw [exec_setup, checkSetup_keylen ((costLegal_iff _).2 ⟨hc4, hc31⟩) hk, endCommand_some, raiseError_eq_failed, CmdError.code]

end Sys2Proof.Machine
end

section
/-! SUPPORT. CRYPT where a check fails, and the two digest commands in the terms of the statements (42_bcrypt_ecb.md R153, R154). -/

namespace Sys2Proof.Machine

open Sys2Proof

/-- Settles O45: the one check of ECB64 is that of SV. -/
theorem ecb64WritesTheDigest : Obligations.Ecb64WritesTheDigest := by
  refine fun s => ⟨fun h => ?_, exec_uninitialised_failed (by decide)⟩
  rw [exec_ecb64_passes h, complete_eq_succeeded]

/-- R154: an error of SETUP's checks ends CRYPT with only STATUS and PENDING changed. -/
theorem exec_crypt_fails {s : State} {e : CmdError} (h : s.checkSetup = some e) :
    exec .crypt s = .next (Reference.failed e.code s) := by
  rw [exec_crypt, h, endCommand_some, raiseError_eq_failed]

/-- Settles O47: CRYPT makes the checks of SETUP, COST first and KEYLEN second, and digests the schedule that it derives. -/
theorem cryptDerivesAndEncrypts : Obligations.CryptDerivesAndEncrypts := by
  refine fun s => ⟨fun hc4 hc31 hk1 hk72 => ?_, fun hc => ?_, fun hc4 hc31 hk => ?_⟩
  · rw [exec_crypt_passes (checkSetup_passes ⟨hc4, hc31⟩ ⟨hk1, hk72⟩), complete_eq_succeeded]
  · exact exec_crypt_fails (checkSetup_cost hc)
  · exact exec_crypt_fails (checkSetup_keylen ((costLegal_iff _).2 ⟨hc4, hc31⟩) hk)

end Sys2Proof.Machine
end

section
/-! SUPPORT. Acceptance, the completion step, NOP and ZEROIZE (43_control.md R161, R163, R170, R171). -/

namespace Sys2Proof.Machine

open Sys2Proof

/-- R161, R206: acceptance clears DONE, so the IRQ output falls whatever CTRL.IE is. -/
@[simp] theorem State.accept_irq (v : Word) (s : State) : (s.accept v).irq = false := by
  rw [State.irq, State.accept_done, Bool.and_false]

/-- Settles O7: an idle block accepts the word, and acceptance changes the four fields of the statement. -/
theorem acceptanceLatchesTheWord : Obligations.AcceptanceLatchesTheWord := fun v _ s ho hp =>
  ⟨s.accept v, exec_wr_cmd v ho hp, rfl, s.accept_busy v, s.accept_irq v⟩

/-- R163: a command ends with PENDING consumed, DONE set and ERR telling whether ECODE is not 0, whichever way it ends. -/
theorem endCommand_ends (s : State) (check : Option CmdError) (effect : State → State) :
    (s.endCommand check effect).pending = none ∧ (s.endCommand check effect).done = true ∧
      ((s.endCommand check effect).err = true ↔ (s.endCommand check effect).ecode ≠ 0) :=
  ⟨endCommand_pending s check effect, endCommand_done s check effect, by rw [endCommand_err, bne_iff_ne]⟩

/-- R163: the engine's turn while BUSY = 1 ends the command, be its word legal or not. -/
theorem engineStep_ends {s t : State} {v : Word} (hp : s.pending = some v) (h : engineStep s = .next t) :
    t.pending = none ∧ t.done = true ∧ (t.err = true ↔ t.ecode ≠ 0) := by
  rcases engineStep_cases s with ⟨hidle, -⟩ | ⟨-, -, -, -, he⟩ | ⟨-, i, -, -, hi, he⟩
  · cases hp.symm.trans hidle
  · cases he.symm.trans h
    exact endCommand_ends s (some .illegalCommand) id
  · obtain ⟨check, effect, hexec, -⟩ := exec_command i s hi
    cases (he.trans hexec).symm.trans h
    exact endCommand_ends s check effect

/-- Settles O8: the engine's turn has a next state that ends the command, and the decoder says which of its two ways it went. -/
theorem completionStepEndsTheCommand : Obligations.CompletionStepEndsTheCommand := by
  intro s v ms hp hm
  obtain ⟨t, hengine, hmoves⟩ := engineStep_next_moves { s with moves := ms }
  obtain ⟨hpending, hdone, herr⟩ := engineStep_ends (s := { s with moves := ms }) hp hengine
  have hstep : step s = .next t := by rw [step_cons hm, serveMove, hengine]
  refine ⟨t, hstep, hpending, t.not_busy_iff.2 hpending, hdone, herr, hmoves, fun i hd => ?_, fun e hd => ?_⟩
  · rw [← step_engine hm hp hd, hstep]
  · cases hstep.symm.trans (step_engine_illegal hm hp hd)
    rfl

/-- Settles O50: NOP has no check and no effect, so it is the completion alone. -/
theorem nopOnlyCompletes : Obligations.NopOnlyCompletes := fun s => by
  rw [exec_nop, complete_eq_succeeded]

theorem BlowfishState.zero_p (i : Fin 18) : BlowfishState.zero.p[i] = 0 := Vector.getElem_replicate i.isLt

theorem BlowfishState.zero_s (j : Fin 4) (n : Fin 256) : BlowfishState.zero.s[j][n] = 0 := by
  have hbox : BlowfishState.zero.s[j] = Vector.replicate 256 0 := Vector.getElem_replicate j.isLt
  rw [hbox]
  exact Vector.getElem_replicate n.isLt

/-- Settles O51: the fields as the equation of ZEROIZE gives them, the banks read at each index. -/
theorem zeroizeClearsSecrets : Obligations.ZeroizeClearsSecrets := by
  refine fun s => ⟨_, exec_zeroize s, BlowfishState.zero_p, BlowfishState.zero_s, rfl, rfl, rfl, fun k => ?_, rfl, rfl, fun k => ?_,
    fun k => ?_, rfl, rfl, rfl, rfl, rfl, rfl, rfl, rfl, rfl⟩
  · exact Vector.getElem_replicate k.isLt
  · exact Vector.getElem_replicate k.isLt
  · exact Vector.getElem_replicate k.isLt

end Sys2Proof.Machine
end

section
/-! SUPPORT. The error that a completion step reports (60_exceptions.md R200, R201, R210): each command word has its check, whose outcome
alone decides how the step ends the command. -/

namespace Sys2Proof.Machine

open Sys2Proof

/-- R210: the check that a command makes; a transaction makes none. -/
def commandCheck (i : Instr) (s : State) : Option CmdError :=
  match i with
  | .expand0key | .expandkey => s.checkExpandKey
  | .expand0salt | .expandsalt | .encrypt | .ecb64 => s.checkSchedule
  | .setup | .crypt => s.checkSetup
  | .nop | .init | .zeroize | .rd _ | .wr _ _ => none

/-- R164, R202, R210: the check of a command word, in which an illegal word fails whatever the state. -/
def wordCheck (v : Word) (s : State) : Option CmdError :=
  match decodeCommand v with
  | .ok i => commandCheck i s
  | .error _ => some .illegalCommand

/-- R200: the code that the outcome of a check stands for, 0 where it passes. -/
def checkCode (check : Option CmdError) : BitVec 4 := check.elim 0 CmdError.code

theorem wordCheck_legal {v : Word} {i : Instr} (hd : decodeCommand v = .ok i) (s : State) : wordCheck v s = commandCheck i s := by
  rw [wordCheck, hd]

theorem wordCheck_illegal {v : Word} {e : DecodeError} (hd : decodeCommand v = .error e) (s : State) :
    wordCheck v s = some .illegalCommand := by
  rw [wordCheck, hd]

/-! How a command ends, by its check (R163, R164). -/

theorem exec_eq_endCommand {i : Instr} (hi : i.isCommand = true) (s : State) :
    ∃ effect, exec i s = .next (s.endCommand (commandCheck i s) effect) ∧ (effect s).ie = s.ie := by
  cases i with
  | nop => exact ⟨id, exec_nop s, rfl⟩
  | init => exact ⟨fun s => { s with bf := piState, sv := true }, exec_init s, rfl⟩
  | expand0key => exact ⟨_, exec_expand0key s, rfl⟩
  | expandkey => exact ⟨_, exec_expandkey s, rfl⟩
  | expand0salt => exact ⟨_, exec_expand0salt s, rfl⟩
  | expandsalt => exact ⟨_, exec_expandsalt s, rfl⟩
  | encrypt => exact ⟨_, exec_encrypt s, rfl⟩
  | setup => exact ⟨_, exec_setup s, rfl⟩
  | ecb64 => exact ⟨_, exec_ecb64 s, rfl⟩
  | crypt => exact ⟨_, exec_crypt s, rfl⟩
  | zeroize =>
    exact ⟨fun s =>
      { s with
        bf := .zero, sv := false, cost := 0, keylen := 0, salt := Vector.replicate 4 0, dataL := 0, dataR := 0
        ct := Vector.replicate 6 0, key := Vector.replicate 18 0 }, exec_zeroize s, rfl⟩
  | rd | wr => cases hi

/-- R163, R164: while BUSY = 1 the engine's turn ends the pending word as its check says, and CTRL.IE plays no part in it. -/
theorem engineStep_eq_endCommand {s : State} {v : Word} (hp : s.pending = some v) :
    ∃ effect, engineStep s = .next (s.endCommand (wordCheck v s) effect) ∧ (effect s).ie = s.ie := by
  cases hd : decodeCommand v with
  | error e => exact ⟨id, by rw [engineStep_illegal hp hd, wordCheck_illegal hd, endCommand_some], rfl⟩
  | ok i =>
    rw [engineStep_ok hp hd, wordCheck_legal hd]
    exact exec_eq_endCommand (decodeCommand_isCommand hd) s

theorem endCommand_checkCode (s : State) (check : Option CmdError) (effect : State → State) :
    (s.endCommand check effect).ecode = checkCode check := by cases check <;> rfl

/-! The outcome of each check as a code (R210). -/

theorem checkCode_keylen (s : State) :
    checkCode s.checkKeylen = if s.keylen.toNat < 1 || 72 < s.keylen.toNat then 3 else 0 := by
  by_cases hk : keylenLegal s.keylen = true
  · obtain ⟨h1, h72⟩ := (keylenLegal_iff _).1 hk
    rw [(checkKeylen_none_iff s).2 hk, if_neg (by simp; omega)]
    rfl
  · have hout : s.keylen.toNat < 1 ∨ 72 < s.keylen.toNat := by rw [keylenLegal_iff] at hk; omega
    rw [State.checkKeylen, if_neg hk, if_pos (by simpa using hout)]
    rfl

theorem checkCode_schedule (s : State) : checkCode s.checkSchedule = if !s.sv then 5 else 0 := by
  unfold State.checkSchedule
  cases s.sv <;> rfl

theorem checkCode_expandKey (s : State) : checkCode s.checkExpandKey = if !s.sv then 5 else checkCode s.checkKeylen := by
  unfold State.checkExpandKey
  cases s.sv <;> rfl

theorem checkCode_setup (s : State) :
    checkCode s.checkSetup = if s.cost.toNat < 4 || 31 < s.cost.toNat then 1 else checkCode s.checkKeylen := by
  by_cases hc : costLegal s.cost = true
  · obtain ⟨h4, h31⟩ := (costLegal_iff _).1 hc
    rw [State.checkSetup, if_pos hc, if_neg (by simp; omega)]
  · have hout : s.cost.toNat < 4 ∨ 31 < s.cost.toNat := by rw [costLegal_iff] at hc; omega
    rw [checkSetup_cost hout, if_pos (by simpa using hout)]
    rfl

/-- R86, R210: at each row of the table of legal words the code of the statements is that of the command's check. -/
theorem errorCode_of_mem_legalWords {v : Word} {i : Instr} (h : (v, i) ∈ Reference.legalWords) (s : State) :
    Reference.errorCode v s = checkCode (commandCheck i s) := by
  have hv := (encode_eq_command_iff v i).2 h
  cases i with
  | rd | wr => cases hv
  | nop | init | zeroize => cases hv; rfl
  | expand0salt | expandsalt | encrypt | ecb64 => cases hv; exact (checkCode_schedule s).symm
  | expand0key | expandkey => cases hv; rw [commandCheck, checkCode_expandKey, checkCode_keylen]; rfl
  | setup | crypt => cases hv; rw [commandCheck, checkCode_setup, checkCode_keylen]; rfl

/-- R202: a word that the decoder refuses stands in no row of the table. -/
theorem errorCode_of_illegal {v : Word} {e : DecodeError} (hd : decodeCommand v = .error e) (s : State) :
    Reference.errorCode v s = 4 := by
  refine if_pos (List.all_eq_true.2 fun row hrow => bne_iff_ne.2 ?_)
  rintro rfl
  cases hd.symm.trans ((decodeCommand_eq_ok_iff _ _).2 (encode_of_mem_legalWords row hrow))

theorem checkCode_wordCheck (v : Word) (s : State) : checkCode (wordCheck v s) = Reference.errorCode v s := by
  cases hd : decodeCommand v with
  | error e => rw [wordCheck_illegal hd, errorCode_of_illegal hd]; rfl
  | ok i => rw [wordCheck_legal hd, errorCode_of_mem_legalWords ((legalCommandWordsAreExactlyTheTable v i).1 hd)]

/-! What the engine's turn leaves in ECODE (R200, R201). -/

theorem engineStep_ecode {s t : State} {v : Word} (hp : s.pending = some v) (h : engineStep s = .next t) :
    t.ecode = Reference.errorCode v s := by
  obtain ⟨effect, he, -⟩ := engineStep_eq_endCommand hp
  cases he.symm.trans h
  rw [endCommand_checkCode, checkCode_wordCheck]

/-- Settles O10: the engine's turn has a next state, and the event taken is no part of what the checks look at. -/
theorem firstApplicableErrorIsReported : Obligations.FirstApplicableErrorIsReported := by
  intro s v ms hp hm
  obtain ⟨t, ht, -⟩ := engineStep_next_moves { s with moves := ms }
  exact ⟨t, by rw [step_cons hm, serveMove, ht], engineStep_ecode (s := { s with moves := ms }) hp ht⟩

/-- R201: a command whose check fails has no effect. -/
theorem endCommand_failed {s : State} {check : Option CmdError} {effect : State → State}
    (h : (s.endCommand check effect).ecode ≠ 0) :
    s.endCommand check effect = Reference.failed (s.endCommand check effect).ecode s := by
  cases check with
  | none => exact absurd rfl h
  | some e => exact raiseError_eq_failed e s

theorem engineStep_failed {s t : State} {v : Word} (hp : s.pending = some v) (h : engineStep s = .next t) (hne : t.ecode ≠ 0) :
    t = Reference.failed t.ecode s := by
  obtain ⟨effect, he, -⟩ := engineStep_eq_endCommand hp
  cases he.symm.trans h
  exact endCommand_failed hne

end Sys2Proof.Machine
end

section
/-! SUPPORT. What a transaction does to PENDING and to DONE, ERR and ECODE (10_state.md R25, R27; 60_exceptions.md R201). -/

namespace Sys2Proof.Machine

open Sys2Proof

/-- PENDING, DONE, ERR and ECODE, on which the invariants of STATUS depend, are the same in both states. -/
structure State.SameCommandStatus (s t : State) : Prop where
  pending : t.pending = s.pending
  done : t.done = s.done
  err : t.err = s.err
  ecode : t.ecode = s.ecode

theorem regAt_cmd_iff (addr : BitVec 14) : regAt addr = .cmd ↔ Reference.off addr = 0x010 := by
  rw [regAt_off]
  refine ⟨fun h => ?_, regAtOffset_cmd⟩
  rcases regAtOffset_inv (Reference.off addr) with ⟨-, -, -, -, hcmd⟩ | ⟨-, hreserved⟩
  · exact hcmd h
  · cases hreserved.symm.trans h

theorem regAt_status_iff (addr : BitVec 14) : regAt addr = .status ↔ Reference.off addr = 0x00C := by
  rw [regAt_off]
  refine ⟨fun h => ?_, regAtOffset_status⟩
  rcases regAtOffset_inv (Reference.off addr) with ⟨-, -, -, hstatus, -⟩ | ⟨-, hreserved⟩
  · exact hstatus h
  · cases hreserved.symm.trans h

/-- R27: of the writes, those of CMD while BUSY = 0 accept a command. -/
theorem accepts_iff {w : BitVec 47} {addr : BitVec 14} {v : Word} (hw : decodeBus w = .wr addr v) (s : State) :
    Reference.Accepts w s ↔ regAt addr = .cmd ∧ s.busy = false := by
  simp [Reference.Accepts, hw, regAt_cmd_iff, s.not_busy_iff]

/-- R25: of the writes, those of STATUS with bit 2 set clear ERR. -/
theorem clearsErr_iff {w : BitVec 47} {addr : BitVec 14} {v : Word} (hw : decodeBus w = .wr addr v) :
    Reference.ClearsErr w ↔ regAt addr = .status ∧ v.getLsbD 2 = true := by
  simp [Reference.ClearsErr, hw, regAt_status_iff]

/-- R61: every write but an acceptance and a write of STATUS keeps the four. -/
theorem writeReg_sameCommandStatus (v : Word) {s : State} {r : Reg} (hcmd : ¬ (r = .cmd ∧ s.busy = false)) (hstatus : r ≠ .status) :
    s.SameCommandStatus (s.writeReg v r) := by
  rcases writeReg_cases v s r with h | ⟨-, h⟩ | ⟨-, h⟩ | ⟨hr, -⟩ | ⟨hidle, ⟨hr, -⟩ | hoperand⟩
  · rw [h]; exact ⟨rfl, rfl, rfl, rfl⟩
  · rw [h]; exact ⟨rfl, rfl, rfl, rfl⟩
  · rw [h]; exact ⟨rfl, rfl, rfl, rfl⟩
  · exact absurd hr hstatus
  · exact absurd ⟨hr, hidle⟩ hcmd
  · rcases hoperand with ⟨-, h⟩ | ⟨-, h⟩ | ⟨_, -, h⟩ | ⟨-, h⟩ | ⟨-, h⟩ | ⟨_, -, h⟩ <;> rw [h] <;> exact ⟨rfl, rfl, rfl, rfl⟩

/-- R201: a transaction accepts a command, or is a write of STATUS, or keeps the four. -/
theorem exec_decodeBus_cases {w : BitVec 47} {s t : State} (h : exec (decodeBus w) s = .next t) :
    (Reference.Accepts w s ∧ ∃ v, t = s.accept v) ∨
      (¬ Reference.Accepts w s ∧ ∃ v, (Reference.ClearsErr w ↔ v.getLsbD 2 = true) ∧ t = s.clearSticky v) ∨
      (¬ Reference.Accepts w s ∧ ¬ Reference.ClearsErr w ∧ s.SameCommandStatus t) := by
  rcases decodeBus_cases w with ⟨addr, hw⟩ | ⟨addr, v, hw⟩
  · rw [hw, exec_rd] at h
    cases h
    refine .inr (.inr ⟨?_, ?_, rfl, rfl, rfl, rfl⟩)
    · simp [Reference.Accepts, hw]
    · simp [Reference.ClearsErr, hw]
  · rw [hw, exec_wr] at h
    cases h
    rw [accepts_iff hw, clearsErr_iff hw]
    by_cases haccept : regAt addr = .cmd ∧ s.busy = false
    · exact .inl ⟨haccept, v, by rw [haccept.1, writeReg_cmd v haccept.2]⟩
    · by_cases hstatus : regAt addr = .status
      · exact .inr (.inl ⟨haccept, v, by simp [hstatus], by rw [hstatus, writeReg_status]⟩)
      · exact .inr (.inr ⟨haccept, fun hclear => hstatus hclear.1, writeReg_sameCommandStatus v haccept hstatus⟩)

/-- R201: under every transaction ECODE and ERR return to 0 or keep their values, as the statement says. -/
theorem exec_decodeBus_ecode_err {w : BitVec 47} {s t : State} (h : exec (decodeBus w) s = .next t) :
    (Reference.Accepts w s → t.ecode = 0 ∧ t.err = false) ∧ (¬ Reference.Accepts w s → t.ecode = s.ecode) ∧
      (Reference.ClearsErr w → t.err = false) ∧ (¬ Reference.Accepts w s → ¬ Reference.ClearsErr w → t.err = s.err) := by
  rcases exec_decodeBus_cases h with ⟨ha, v, rfl⟩ | ⟨ha, v, hclear, rfl⟩ | ⟨ha, hclear, kept⟩
  · exact ⟨fun _ => ⟨rfl, rfl⟩, absurd ha, fun _ => rfl, absurd ha⟩
  · exact ⟨fun h => absurd h ha, fun _ => rfl, by simp +contextual [hclear], by simp +contextual [hclear]⟩
  · exact ⟨fun h => absurd h ha, fun _ => kept.ecode, fun h => absurd h hclear, fun _ _ => kept.err⟩

/-- Settles O11: the engine's turn that reports a code is that of a failed check, and a transaction is one of the three kinds. -/
theorem failedCommandChangesOnlyStatus : Obligations.FailedCommandChangesOnlyStatus := by
  refine ⟨fun s t v ms hp hm h hne => ?_, fun s t w ms hm h => ?_⟩
  · rw [step_cons hm, serveMove] at h
    exact engineStep_failed (s := { s with moves := ms }) hp h hne
  · rw [step_bus hm] at h
    exact exec_decodeBus_ecode_err (s := { s with moves := ms }) h

end Sys2Proof.Machine
end

section
/-! SUPPORT. The invariants of STATUS (10_state.md R26; 60_exceptions.md R200), kept by each kind of event. -/

namespace Sys2Proof.Machine

open Sys2Proof

theorem errorCode_values (v : Word) (s : State) :
    Reference.errorCode v s = 0 ∨ Reference.errorCode v s = 1 ∨ Reference.errorCode v s = 3 ∨ Reference.errorCode v s = 4 ∨
      Reference.errorCode v s = 5 := by
  unfold Reference.errorCode
  split_ifs <;> decide

theorem State.StatusInv.setMoves {s : State} (h : s.StatusInv) (ms : List Move) : ({ s with moves := ms } : State).StatusInv := h

/-- R26: clearing DONE or ERR, or neither, keeps the invariants. -/
theorem State.StatusInv.mono {s t : State} (h : s.StatusInv) (hpending : t.pending = s.pending)
    (hdone : s.done = false → t.done = false) (herr : s.err = false → t.err = false) (hecode : t.ecode = s.ecode) : t.StatusInv := by
  obtain ⟨hbusy, herrCode, hcodes⟩ := h
  refine ⟨fun hb => ?_, fun he => ?_, hecode ▸ hcodes⟩
  · obtain ⟨hd, he, hc⟩ := hbusy (by rwa [State.busy, hpending] at hb)
    exact ⟨hdone hd, herr he, hecode.trans hc⟩
  · rw [hecode]
    exact herrCode (Bool.eq_true_of_not_eq_false fun hs => absurd (herr hs) (by simp [he]))

theorem State.StatusInv.accept (v : Word) (s : State) : (s.accept v).StatusInv := ⟨fun _ => ⟨rfl, rfl, rfl⟩, nofun, .inl rfl⟩

theorem State.StatusInv.clearSticky {s : State} (h : s.StatusInv) (v : Word) : (s.clearSticky v).StatusInv :=
  h.mono rfl (by simp +contextual) (by simp +contextual) rfl

theorem State.StatusInv.resetInput (s : State) : s.resetInput.StatusInv := ⟨nofun, nofun, .inl rfl⟩

theorem State.StatusInv.exec_decodeBus {s t : State} (h : s.StatusInv) {w : BitVec 47} (ht : exec (decodeBus w) s = .next t) :
    t.StatusInv := by
  rcases exec_decodeBus_cases ht with ⟨-, v, rfl⟩ | ⟨-, v, -, rfl⟩ | ⟨-, -, kept⟩
  · exact .accept v s
  · exact h.clearSticky v
  · exact h.mono kept.pending kept.done.trans kept.err.trans kept.ecode

/-- A completion step leaves BUSY = 0 and a code of R210; whatever the state before it was, the invariants then hold. -/
theorem State.StatusInv.engineStep {s t : State} (h : s.StatusInv) (ht : engineStep s = .next t) : t.StatusInv := by
  cases hp : s.pending with
  | none =>
    cases (engineStep_idle hp).symm.trans ht
    exact h
  | some v =>
    obtain ⟨hpending, -, herr⟩ := engineStep_ends hp ht
    refine ⟨fun hb => ?_, herr.1, engineStep_ecode hp ht ▸ errorCode_values v s⟩
    exact absurd hb (by simp [State.busy, hpending])

/-- Settles O54: each of the four kinds of step keeps the invariants. -/
theorem stepKeepsStatusInvariant : Obligations.StepKeepsStatusInvariant := by
  intro s t h ht
  rcases step_cases ht with ⟨-, he⟩ | ⟨ms, -, he⟩ | ⟨w, ms, -, he⟩ | ⟨ms, -, rfl⟩
  · exact h.engineStep he
  · exact (h.setMoves ms).engineStep he
  · exact (h.setMoves ms).exec_decodeBus he
  · exact .resetInput _

end Sys2Proof.Machine
end

section
/-! SUPPORT. The IRQ output (60_exceptions.md R206), after each event that moves it. -/

namespace Sys2Proof.Machine

open Sys2Proof

theorem irq_iff (s : State) : s.irq = true ↔ s.ie = true ∧ s.done = true := by
  rw [State.irq, Bool.and_eq_true]

theorem irq_eq_false_iff (s : State) : s.irq = false ↔ s.ie = false ∨ s.done = false := by
  rw [State.irq, Bool.and_eq_false_iff]

theorem endCommand_ie {s : State} (check : Option CmdError) {effect : State → State} (he : (effect s).ie = s.ie) :
    (s.endCommand check effect).ie = s.ie := by
  cases check with
  | none => exact he
  | some e => rfl

/-- R206: the engine's turn while BUSY = 1 raises IRQ where IE = 1, whether the command succeeds or not. -/
theorem engineStep_irq {s : State} {v : Word} (hp : s.pending = some v) (hie : s.ie = true) :
    ∃ t, engineStep s = .next t ∧ t.irq = true := by
  obtain ⟨effect, he, hkept⟩ := engineStep_eq_endCommand hp
  exact ⟨_, he, (irq_iff _).2 ⟨(endCommand_ie _ hkept).trans hie, endCommand_done _ _ _⟩⟩

theorem exec_wr_ctrl (v : Word) (s : State) : exec (.wr 0x008 v) s = .next (s.writeCtrl v) := by
  rw [exec_wr, regAt_ctrl, writeReg_ctrl]

theorem exec_wr_status (v : Word) (s : State) : exec (.wr 0x00C v) s = .next (s.clearSticky v) := by
  rw [exec_wr, regAt_status, writeReg_status]

/-- Settles O14: each event leaves IE and DONE as its operation says, and IRQ is their conjunction. -/
theorem irqIsIeAndDone : Obligations.IrqIsIeAndDone := by
  refine ⟨irq_iff, fun s v ms hp hm hie => ?_, fun s v hdone hv => ?_, fun s v hv => ?_, fun s v hv => ?_, fun s v hp => ?_,
    fun s => rfl, fun s b e => rfl⟩
  · rw [step_cons hm]
    exact engineStep_irq (s := { s with moves := ms }) hp hie
  · exact ⟨_, exec_wr_ctrl v s, (irq_iff _).2 ⟨hv, hdone⟩⟩
  · exact ⟨_, exec_wr_status v s, (irq_eq_false_iff _).2 (.inr (by simp [hv]))⟩
  · exact ⟨_, exec_wr_ctrl v s, (irq_eq_false_iff _).2 (.inl hv)⟩
  · exact ⟨_, exec_wr_cmd v rfl hp, s.accept_irq v⟩

end Sys2Proof.Machine
end

section
/-! SUPPORT. The events of the block's own side: the engine's turn, listed or not, and the reset input (70_reset_and_hazards.md R230,
R231, R243). -/

namespace Sys2Proof.Machine

open Sys2Proof

/-- R71: the engine's turn, where it is the event listed first. -/
theorem step_engineTurn {s : State} {ms : List Move} (h : s.moves = .engine :: ms) : step s = engineStep { s with moves := ms } := by
  rw [step_cons h, serveMove]

theorem step_reset {s : State} {ms : List Move} (h : s.moves = .reset :: ms) :
    step s = .next ({ s with moves := ms } : State).resetInput := by
  rw [step_cons h, serveMove]

/-- R220: an idle block with no event to come keeps its state. -/
theorem step_idle {s : State} (hp : s.pending = none) (hm : s.moves = []) : step s = .next s := by
  rw [step_nil hm, engineStep_idle hp]

theorem State.setMoves_self {s : State} {ms : List Move} (h : s.moves = ms) : ({ s with moves := ms } : State) = s := by
  rw [← h]

/-- R243: with no event to come, a step is the engine's turn. -/
theorem step_nil_eq_engine {s : State} (hm : s.moves = []) : step s = step { s with moves := [.engine] } := by
  rw [step_engineTurn (s := { s with moves := [.engine] }) rfl, State.setMoves_self hm, step_nil hm]

/-- Settles O9: the engine's turn ends the command and takes no event, which leaves an idle block with none to come. -/
theorem pendingCommandCompletesWithNoEvent : Obligations.PendingCommandCompletesWithNoEvent := by
  refine ⟨fun s v hp hm => ?_, fun s hm => step_nil_eq_engine hm, fun s ms hp hm => ?_⟩
  · obtain ⟨t, ht, hmoves⟩ := engineStep_next_moves s
    obtain ⟨hpending, hdone, -⟩ := engineStep_ends hp ht
    exact ⟨t, (step_nil hm).trans ht, hpending, hdone, step_idle hpending (hmoves.trans hm)⟩
  · rw [step_engineTurn hm]
    exact engineStep_idle hp

/-- Settles O53: no field of the state after the reset input but P, S and the model's own comes from the state before it, so a pending
command leaves no trace there; the register banks are read at each index. -/
theorem resetInputAbandonsAndClears : Obligations.ResetInputAbandonsAndClears := by
  refine fun s ms hm => ⟨_, step_reset hm, rfl, rfl, rfl, rfl, rfl, rfl, rfl, rfl, rfl, fun k => ?_, rfl, rfl, fun k => ?_,
    fun k => ?_, rfl, rfl, rfl⟩
  · exact Vector.getElem_replicate k.isLt
  · exact Vector.getElem_replicate k.isLt
  · exact Vector.getElem_replicate k.isLt

end Sys2Proof.Machine
end

section
/-! SUPPORT. The effect of each command on its own (43_control.md R164): with its check it is the command's meaning. -/

namespace Sys2Proof.Machine

open Sys2Proof

/-- R164: what a command writes where its check passes; a transaction is no command. -/
def commandEffect (i : Instr) (s : State) : State :=
  match i with
  | .nop | .rd _ | .wr _ _ => s
  | .init => { s with bf := piState, sv := true }
  | .expand0key => { s with bf := expandKey false s.salt s.keyOperand s.bf }
  | .expandkey => { s with bf := expandKey true s.salt s.keyOperand s.bf }
  | .expand0salt => { s with bf := expandKey false s.salt s.saltOperand s.bf }
  | .expandsalt => { s with bf := expandKey true s.salt s.saltOperand s.bf }
  | .encrypt => { s with dataL := (encipher s.bf (s.dataL, s.dataR)).1, dataR := (encipher s.bf (s.dataL, s.dataR)).2 }
  | .setup => { s with bf := eksSetup s.cost.toNat s.salt s.keyOperand, sv := true }
  | .ecb64 => { s with ct := ecb64core s.bf }
  | .crypt =>
    { s with
      bf := eksSetup s.cost.toNat s.salt s.keyOperand
      sv := true
      ct := ecb64core (eksSetup s.cost.toNat s.salt s.keyOperand) }
  | .zeroize =>
    { s with
      bf := .zero, sv := false, cost := 0, keylen := 0, salt := Vector.replicate 4 0, dataL := 0, dataR := 0
      ct := Vector.replicate 6 0, key := Vector.replicate 18 0 }

/-- R163, R164: a command ends by its own check with its own effect. -/
theorem exec_eq_commandEffect {i : Instr} (hi : i.isCommand = true) (s : State) :
    exec i s = .next (s.endCommand (commandCheck i s) (commandEffect i)) := by
  cases i with
  | nop => exact exec_nop s
  | init => exact exec_init s
  | expand0key => exact exec_expand0key s
  | expandkey => exact exec_expandkey s
  | expand0salt => exact exec_expand0salt s
  | expandsalt => exact exec_expandsalt s
  | encrypt => exact exec_encrypt s
  | setup => exact exec_setup s
  | ecb64 => exact exec_ecb64 s
  | crypt => exact exec_crypt s
  | zeroize => exact exec_zeroize s
  | rd | wr => cases hi

/-- A command raises the error its check found, or completes its effect. -/
theorem exec_command_cases {i : Instr} {s t : State} (hi : i.isCommand = true) (h : exec i s = .next t) :
    (∃ e, commandCheck i s = some e ∧ t = s.raiseError e) ∨ (commandCheck i s = none ∧ t = (commandEffect i s).complete) := by
  cases (exec_eq_commandEffect hi s).symm.trans h
  exact endCommand_cases s (commandCheck i s) (commandEffect i)

end Sys2Proof.Machine
end

section
/-! SUPPORT. The invariant of P and S (10_state.md R43), kept by each kind of event: every ExpandKey that a command makes has a key of a
legal length. -/

namespace Sys2Proof.Machine

open Sys2Proof

/-- R34, R121: the key of a legal KEYLEN has 1 to 72 bytes. -/
theorem keyOperand_length_legal {s : State} (h : keylenLegal s.keylen = true) :
    1 ≤ s.keyOperand.length ∧ s.keyOperand.length ≤ 72 := by
  obtain ⟨h1, h72⟩ := (keylenLegal_iff _).1 h
  have hlen : s.keyOperand.length = s.keylen.toNat := keyBytes_length s.key h72
  omega

/-- R31, R128: the salt is a key of 16 bytes. -/
theorem saltOperand_length_legal (s : State) : 1 ≤ s.saltOperand.length ∧ s.saltOperand.length ≤ 72 := by
  simp [State.saltOperand]

/-- R132: the rekeyings of SETUP are ExpandKeys too, however many they are. -/
theorem eksSetup_scheduled (cost : Nat) (salt : Vector Word 4) {k : List Byte} (hk : 1 ≤ k.length ∧ k.length ≤ 72) :
    (eksSetup cost salt k).Scheduled := by
  obtain ⟨short, long⟩ := hk
  rw [eksSetup_eq]
  refine Function.Iterate.rec BlowfishState.Scheduled ?_ (fun b hb => ?_) (2 ^ cost)
  · exact BlowfishState.Scheduled.constants.expand true salt k piState short long
  · exact (hb.expand false salt k b short long).expand false salt (saltBytes salt) _ (by simp) (by simp)

theorem State.ScheduleInv.commandEffect {s : State} (h : s.ScheduleInv) {i : Instr} (hc : commandCheck i s = none) :
    (commandEffect i s).ScheduleInv := by
  cases i with
  | nop | rd | wr | encrypt | ecb64 => exact h
  | init => exact fun _ => .constants
  | expand0key | expandkey =>
    obtain ⟨hsv, hlegal⟩ := (checkExpandKey_none_iff s).1 hc
    obtain ⟨short, long⟩ := keyOperand_length_legal hlegal
    exact fun _ => (h hsv).expand _ s.salt s.keyOperand s.bf short long
  | expand0salt | expandsalt =>
    obtain ⟨short, long⟩ := saltOperand_length_legal s
    exact fun _ => (h ((checkSchedule_none_iff s).1 hc)).expand _ s.salt s.saltOperand s.bf short long
  | setup | crypt =>
    obtain ⟨-, hlegal⟩ := (checkSetup_none_iff s).1 hc
    exact fun _ => eksSetup_scheduled s.cost.toNat s.salt (keyOperand_length_legal hlegal)
  | zeroize => exact nofun

/-- R201: an error leaves P, S and SV alone, so only the effect can break the invariant. -/
theorem State.ScheduleInv.exec_command {s t : State} (h : s.ScheduleInv) {i : Instr} (hi : i.isCommand = true)
    (ht : exec i s = .next t) : t.ScheduleInv := by
  rcases exec_command_cases hi ht with ⟨e, -, rfl⟩ | ⟨hc, rfl⟩
  · exact h
  · exact h.commandEffect hc

theorem State.ScheduleInv.engineStep {s t : State} (h : s.ScheduleInv) (ht : engineStep s = .next t) : t.ScheduleInv := by
  rcases engineStep_cases s with ⟨-, he⟩ | ⟨-, -, -, -, he⟩ | ⟨-, i, -, -, hi, he⟩
  · cases he.symm.trans ht
    exact h
  · cases he.symm.trans ht
    exact h
  · exact h.exec_command hi (he.symm.trans ht)

/-- A transaction writes neither P nor S nor SV. -/
theorem State.ScheduleInv.exec_decodeBus {s t : State} (h : s.ScheduleInv) {w : BitVec 47} (ht : exec (decodeBus w) s = .next t) :
    t.ScheduleInv := by
  rcases decodeBus_cases w with ⟨addr, hw⟩ | ⟨addr, v, hw⟩ <;> rw [hw] at ht
  · cases (exec_rd addr s).symm.trans ht
    exact h
  · cases (exec_wr addr v s).symm.trans ht
    obtain ⟨hbf, hsv, -⟩ := writeReg_frame v s (regAt addr)
    rwa [State.ScheduleInv, hsv, hbf]

/-- Settles O55: each of the four kinds of step keeps the invariant; the reset input does by clearing SV. -/
theorem stepKeepsScheduleInvariant : Obligations.StepKeepsScheduleInvariant := by
  intro s t h ht
  rcases step_cases ht with ⟨-, he⟩ | ⟨ms, -, he⟩ | ⟨w, ms, -, he⟩ | ⟨ms, -, rfl⟩
  · exact h.engineStep he
  · exact State.ScheduleInv.engineStep (s := { s with moves := ms }) h he
  · exact State.ScheduleInv.exec_decodeBus (s := { s with moves := ms }) h he
  · exact nofun

end Sys2Proof.Machine
end

section
/-! SUPPORT. What each command writes and what it leaves (43_control.md section 3, the table of effects). -/

namespace Sys2Proof.Machine

open Sys2Proof

/-! The table's columns, of the effect alone. -/

/-- R166: no command writes IE or BWE, nor the model's own fields. -/
theorem commandEffect_unwritten (i : Instr) (s : State) :
    (commandEffect i s).ie = s.ie ∧ (commandEffect i s).bwe = s.bwe ∧ (commandEffect i s).rdata = s.rdata ∧
      (commandEffect i s).moves = s.moves ∧ (commandEffect i s).resets = s.resets := by
  cases i <;> simp [commandEffect]

theorem commandEffect_bf {i : Instr} (hi : i ∈ [.nop, .encrypt, .ecb64]) (s : State) : (commandEffect i s).bf = s.bf := by
  simp only [List.mem_cons, List.not_mem_nil, or_false] at hi
  obtain rfl | rfl | rfl := hi <;> rfl

theorem commandEffect_operandRegisters {i : Instr} (hi : i ≠ .zeroize) (s : State) :
    (commandEffect i s).cost = s.cost ∧ (commandEffect i s).keylen = s.keylen ∧ (commandEffect i s).salt = s.salt ∧
      (commandEffect i s).key = s.key := by
  cases i with
  | zeroize => exact absurd rfl hi
  | _ => simp [commandEffect]

theorem commandEffect_data {i : Instr} (hi : i ∉ [.encrypt, .zeroize]) (s : State) :
    (commandEffect i s).dataL = s.dataL ∧ (commandEffect i s).dataR = s.dataR := by
  cases i with
  | encrypt | zeroize => simp at hi
  | _ => simp [commandEffect]

theorem commandEffect_ct {i : Instr} (hi : i ∉ [.ecb64, .crypt, .zeroize]) (s : State) : (commandEffect i s).ct = s.ct := by
  cases i with
  | ecb64 | crypt | zeroize => simp at hi
  | _ => simp [commandEffect]

/-- R42: INIT, SETUP and CRYPT set SV, and the check of every other command but NOP and ZEROIZE passes with SV = 1 alone. -/
theorem commandEffect_sv {i : Instr} {s : State} (hc : commandCheck i s = none) (hi : i ∉ [.nop, .zeroize])
    (hcommand : i.isCommand = true) : (commandEffect i s).sv = true := by
  cases i with
  | nop | zeroize => simp at hi
  | rd | wr => cases hcommand
  | init | setup | crypt => rfl
  | expand0key | expandkey =>
    obtain ⟨hsv, -⟩ := (checkExpandKey_none_iff s).1 hc
    simpa [commandEffect] using hsv
  | expand0salt | expandsalt | encrypt | ecb64 =>
    have hsv := (checkSchedule_none_iff s).1 hc
    simpa [commandEffect] using hsv

/-- Settles O12: a command that raises an error leaves all but STATUS, and one that completes has its effect. -/
theorem commandsWriteOnlyTheirRow : Obligations.CommandsWriteOnlyTheirRow := by
  intro i s t hi h
  rcases exec_command_cases hi h with ⟨e, hc, rfl⟩ | ⟨hc, rfl⟩
  · refine ⟨⟨rfl, rfl, rfl, rfl, rfl⟩, fun _ => raiseError_eq_failed e s, fun _ => rfl, fun _ => ⟨rfl, rfl, rfl, rfl⟩,
      fun _ => ⟨rfl, rfl⟩, fun _ => rfl, ?_, ?_, ?_, fun _ h0 => absurd h0 e.code_ne_zero⟩
    all_goals
      rintro rfl
      cases hc
  · refine ⟨commandEffect_unwritten i s, fun hne => absurd rfl hne, fun hi => commandEffect_bf hi s,
      fun hi => commandEffect_operandRegisters hi s, fun hi => commandEffect_data hi s, fun hi => commandEffect_ct hi s, ?_, ?_, ?_,
      fun hrow _ => commandEffect_sv hc hrow hi⟩
    all_goals
      rintro rfl
      exact ⟨rfl, rfl⟩

end Sys2Proof.Machine
end

section
/-! SUPPORT. While BUSY = 1 (43_control.md section 3, operand sampling): what a command reads is one part of the state, which no
transaction writes, and on which alone the outcome of the command depends. -/

namespace Sys2Proof.Machine

open Sys2Proof

/-- The state with every field erased that a completion step neither reads nor computes with: CTRL, the flags and ECODE, and the
model's own fields. -/
def State.operands (s : State) : State :=
  { s with ie := false, done := false, err := false, bwe := false, ecode := 0, rdata := 0, moves := [], resets := 0 }

/-! Transactions leave the operands alone (10_state.md section 2). -/

theorem writeReg_operands {s : State} (h : s.busy = true) (v : Word) (r : Reg) : (s.writeReg v r).operands = s.operands := by
  rcases writeReg_cases v s r with hw | ⟨-, hw⟩ | ⟨-, hw⟩ | ⟨-, hw⟩ | ⟨hidle, -⟩
  · rw [hw]
  · rw [hw]; rfl
  · rw [hw]; rfl
  · rw [hw]; rfl
  · cases h.symm.trans hidle

theorem exec_decodeBus_operands {s : State} (h : s.busy = true) (w : BitVec 47) :
    ∃ t, exec (decodeBus w) s = .next t ∧ t.moves = s.moves ∧ t.operands = s.operands := by
  rcases decodeBus_cases w with ⟨addr, hw⟩ | ⟨addr, v, hw⟩ <;> rw [hw]
  · exact ⟨_, exec_rd addr s, rfl, rfl⟩
  · obtain ⟨-, -, -, -, hmoves, -⟩ := writeReg_frame v s (regAt addr)
    exact ⟨_, exec_wr addr v s, hmoves, writeReg_operands h v _⟩

theorem State.operands_pending {s t : State} (h : t.operands = s.operands) : t.pending = s.pending := congrArg (·.pending) h

theorem run_succ {n : Nat} {s t : State} (h : step s = .next t) : Reference.run (n + 1) s = Reference.run n t := by
  rw [Reference.run, h]

/-- One step more at the end of a run. -/
theorem run_succ_of_run {n : Nat} {s t : State} (h : Reference.run n s = .next t) : Reference.run (n + 1) s = step t := by
  induction n generalizing s with
  | zero =>
    cases h
    rw [Reference.run]
    cases step t <;> rfl
  | succ n ih =>
    cases hs : step s with
    | next u =>
      rw [run_succ hs] at h ⊢
      exact ih h
    | fault r | refused r => simp [Reference.run, hs] at h

/-- A run of transactions serves them all and leaves the operands of the command in progress. -/
theorem run_onlyBus {ms : List Move} (hbus : Reference.OnlyBus ms) {rest : List Move} {s : State} {v : Word}
    (hp : s.pending = some v) (hm : s.moves = ms ++ rest) :
    ∃ t, Reference.run ms.length s = .next t ∧ t.moves = rest ∧ t.operands = s.operands := by
  induction ms generalizing s with
  | nil => exact ⟨s, rfl, hm, rfl⟩
  | cons m ms ih =>
    obtain ⟨w, rfl⟩ := hbus m List.mem_cons_self
    obtain ⟨u, hu, humoves, huops⟩ := exec_decodeBus_operands (s := { s with moves := ms ++ rest }) (State.busy_of_pending hp) w
    obtain ⟨t, ht, htmoves, htops⟩ := ih (fun m hmem => hbus m (List.mem_cons_of_mem _ hmem))
      ((State.operands_pending huops).trans hp) humoves
    exact ⟨t, (run_succ ((step_bus hm).trans hu)).trans ht, htmoves, htops.trans huops⟩

/-- Settles O15: the fields named are all among the operands. -/
theorem operandsAreFixedWhileBusy : Obligations.OperandsAreFixedWhileBusy := by
  intro ms rest s v hbus hp hm
  obtain ⟨t, ht, hmoves, hops⟩ := run_onlyBus hbus hp hm
  exact ⟨t, ht, hmoves, (State.operands_pending hops).trans hp, congrArg (·.cost) hops, congrArg (·.keylen) hops,
    congrArg (·.key) hops, congrArg (·.salt) hops, congrArg (·.dataL) hops, congrArg (·.dataR) hops, congrArg (·.bf) hops,
    congrArg (·.sv) hops, congrArg (·.ct) hops⟩

/-! The completion step depends on the operands alone (R163, R164). -/

theorem completeWith_operands (e : BitVec 4) (s : State) : (s.completeWith e).operands = { s.operands with pending := none } := rfl

theorem endCommand_operands_congr {s t : State} (h : s.operands = t.operands) (check : Option CmdError) {effect : State → State}
    (he : (effect s).operands = (effect t).operands) : (s.endCommand check effect).operands = (t.endCommand check effect).operands := by
  cases check with
  | none => rw [endCommand_none, endCommand_none, State.complete, State.complete, completeWith_operands, he, completeWith_operands]
  | some e =>
    rw [endCommand_some, endCommand_some, State.raiseError, State.raiseError, completeWith_operands, h, completeWith_operands]

theorem commandCheck_operands (i : Instr) (s : State) : commandCheck i s.operands = commandCheck i s := by cases i <;> rfl

theorem operands_commandEffect (i : Instr) (s : State) : (commandEffect i s).operands = commandEffect i s.operands := by
  cases i <;> simp [commandEffect, State.operands, State.keyOperand, State.saltOperand]

/-- The effect of a command word; one that encodes no command has none. -/
def wordEffect (v : Word) (s : State) : State :=
  match decodeCommand v with
  | .ok i => commandEffect i s
  | .error _ => s

theorem engineStep_eq_wordEffect {s : State} {v : Word} (hp : s.pending = some v) :
    engineStep s = .next (s.endCommand (wordCheck v s) (wordEffect v)) := by
  unfold wordEffect wordCheck
  cases hd : decodeCommand v with
  | error e => exact engineStep_illegal hp hd
  | ok i => exact (engineStep_ok hp hd).trans (exec_eq_commandEffect (decodeCommand_isCommand hd) s)

theorem wordCheck_congr {s t : State} (h : s.operands = t.operands) (v : Word) : wordCheck v s = wordCheck v t := by
  unfold wordCheck
  cases decodeCommand v with
  | error e => rfl
  | ok i => exact (commandCheck_operands i s).symm.trans (h ▸ commandCheck_operands i t)

theorem wordEffect_congr {s t : State} (h : s.operands = t.operands) (v : Word) :
    (wordEffect v s).operands = (wordEffect v t).operands := by
  unfold wordEffect
  cases decodeCommand v with
  | error e => exact h
  | ok i => exact (operands_commandEffect i s).trans (h ▸ (operands_commandEffect i t).symm)

/-- R163, R164: from states with the same operands the completion step gives states with the same operands and the same ECODE, ERR and
DONE. -/
theorem engineStep_congr {s t : State} (h : s.operands = t.operands) {v : Word} (hp : s.pending = some v) :
    ∃ s' t', engineStep s = .next s' ∧ engineStep t = .next t' ∧ s'.operands = t'.operands ∧ s'.ecode = t'.ecode ∧
      s'.err = t'.err ∧ s'.done = t'.done := by
  have hcheck := wordCheck_congr h v
  refine ⟨_, _, engineStep_eq_wordEffect hp, engineStep_eq_wordEffect ((State.operands_pending h).symm.trans hp),
    hcheck ▸ endCommand_operands_congr h (wordCheck v s) (wordEffect_congr h v), ?_, ?_, ?_⟩
  · rw [endCommand_checkCode, endCommand_checkCode, hcheck]
  · rw [endCommand_err, endCommand_err, endCommand_checkCode, endCommand_checkCode, hcheck]
  · rw [endCommand_done, endCommand_done]

/-- Settles O16: the transactions leave the operands, on which the completion step depends. -/
theorem completionDoesNotDependOnWhen : Obligations.CompletionDoesNotDependOnWhen := by
  intro ms rest s v hbus hp hm
  obtain ⟨t, ht, hmoves, hops⟩ := run_onlyBus hbus hp hm
  obtain ⟨late, early, hlate, hearly, hsame, hecode, herr, hdone⟩ := engineStep_congr
    (s := { t with moves := rest }) (t := { s with moves := rest }) hops ((State.operands_pending hops).trans hp)
  obtain ⟨late', hlate', hlateMoves⟩ := engineStep_next_moves { t with moves := rest }
  obtain ⟨early', hearly', hearlyMoves⟩ := engineStep_next_moves { s with moves := rest }
  cases hlate.symm.trans hlate'
  cases hearly.symm.trans hearly'
  exact ⟨late, early, (run_succ_of_run ht).trans ((step_engineTurn hmoves).trans hlate), (step_engineTurn rfl).trans hearly,
    congrArg (·.bf) hsame, congrArg (·.sv) hsame, congrArg (·.ct) hsame, congrArg (·.dataL) hsame, congrArg (·.dataR) hsame,
    congrArg (·.cost) hsame, congrArg (·.keylen) hsame, congrArg (·.salt) hsame, congrArg (·.key) hsame,
    congrArg (·.pending) hsame, hecode, herr, hdone, hlateMoves.trans hearlyMoves.symm⟩

end Sys2Proof.Machine
end

section
/-! SUPPORT. The key stream of the salt (41_eksblowfish.md R120, R128). -/

namespace Sys2Proof.Machine

open Sys2Proof

/-- R13: a word is put together from its own bytes, each its value's digit in base 256. -/
theorem be32_digits (w : Word) :
    be32 (BitVec.ofNat 8 (w.toNat / 2 ^ 24)) (BitVec.ofNat 8 (w.toNat / 2 ^ 16)) (BitVec.ofNat 8 (w.toNat / 2 ^ 8))
      (BitVec.ofNat 8 (w.toNat / 2 ^ 0)) = w := by
  have hw := w.isLt
  apply BitVec.eq_of_toNat_eq
  simp only [be32_toNat, BitVec.toNat_ofNat]
  omega

/-- R31, R120: at stream position `4 i + c` the salt gives byte `c` of its word `i mod 4`. -/
theorem keyByte_saltBytes (salt : Vector Word 4) (i c : Nat) (hc : c < 4) :
    keyByte (saltBytes salt) (4 * i + c) = BitVec.ofNat 8 ((salt[i % 4]).toNat / 2 ^ (24 - 8 * c)) := by
  have hpos : (4 * i + c) % 16 < 16 := Nat.mod_lt _ (by decide)
  have hword : (4 * i + c) % 16 / 4 = i % 4 := by omega
  have hbyte : (4 * i + c) % 16 % 4 = c := by omega
  have hget := keyByte_getElem? (saltBytes salt) (4 * i + c) (by simp)
  rw [saltBytes_length, saltBytes_getElem? salt ⟨_, hpos⟩, Reference.saltByteAt] at hget
  simpa only [hword, hbyte, Option.some.injEq] using hget.symm

/-- Settles O33: the four bytes of stream word `i` are those of one salt word, since the salt is a whole number of words. -/
theorem saltKeyStreamIsTheSaltWords : Obligations.SaltKeyStreamIsTheSaltWords := by
  intro salt i
  have hfirst : keyByte (saltBytes salt) (4 * i.val) = _ := keyByte_saltBytes salt i.val 0 (by decide)
  rw [keyWord, hfirst, keyByte_saltBytes salt i.val 1 (by decide),
    keyByte_saltBytes salt i.val 2 (by decide), keyByte_saltBytes salt i.val 3 (by decide)]
  exact be32_digits _

end Sys2Proof.Machine
end

section
/-! SUPPORT. The intermediate values of a counted loop, and Encipher as the recurrence over them (40_blowfish.md R105). -/

namespace Sys2Proof.Machine

open Sys2Proof

/-- The values that a loop `for i in 0..n-1` goes through. -/
theorem exists_fold_trace {α : Type} (n : Nat) (f : (i : Nat) → i < n → α → α) (a : α) :
    ∃ x : Nat → α, x 0 = a ∧ (∀ i (h : i < n), x (i + 1) = f i h (x i)) ∧ x n = Nat.fold n f a := by
  refine ⟨fun k => if h : k ≤ n then Nat.fold k (fun i hi => f i (hi.trans_le h)) a else a, rfl, fun i h => ?_, dif_pos le_rfl⟩
  simp only [dif_pos h.le, dif_pos (Nat.succ_le_of_lt h), Nat.fold_succ]

/-- Settles O35: the halves that the 16 rounds go through are the words of the unrolled form. -/
theorem encipherIsTheUnrolledForm : Obligations.EncipherIsTheUnrolledForm := by
  intro b l r
  obtain ⟨z, hstart, hround, hend⟩ := exists_fold_trace 16 (fun i _ x => feistelRound b b.p[i] x) (l, r)
  refine ⟨fun i => (z i).1, fun i => (z i).2, congrArg Prod.fst hstart, congrArg Prod.snd hstart, fun i => ?_, ?_⟩
  · have h := hround i.val i.isLt
    exact ⟨congrArg Prod.fst h, congrArg Prod.snd h⟩
  · simp only [encipher, feistelRounds, ← hend]

end Sys2Proof.Machine
end

section
/-! SUPPORT. SETUP as the commands it stands for (41_eksblowfish.md section 4). -/

namespace Sys2Proof.Machine

open Sys2Proof

/-- What a completed command of the sequence leaves: the state before it, with the schedule `b` and SV set. -/
def State.withSchedule (s : State) (b : BlowfishState) : State := { s with bf := b, sv := true }.complete

theorem after_init (s : State) : Reference.after .init s = s.withSchedule piState := by
  rw [State.withSchedule]
  exact after_eq (exec_init s)

theorem after_expandkey_withSchedule {s : State} (hk : 1 ≤ s.keylen.toNat ∧ s.keylen.toNat ≤ 72) (b : BlowfishState) :
    Reference.after .expandkey (s.withSchedule b) = s.withSchedule (expandKey true s.salt s.keyOperand b) :=
  after_eq (exec_expandkey_passes (s := s.withSchedule b) (checkExpandKey_passes rfl hk))

theorem after_expand0key_withSchedule {s : State} (hk : 1 ≤ s.keylen.toNat ∧ s.keylen.toNat ≤ 72) (b : BlowfishState) :
    Reference.after .expand0key (s.withSchedule b) = s.withSchedule (expandKey false s.salt s.keyOperand b) :=
  after_eq (exec_expand0key_passes (s := s.withSchedule b) (checkExpandKey_passes rfl hk))

theorem after_expand0salt_withSchedule (s : State) (b : BlowfishState) :
    Reference.after .expand0salt (s.withSchedule b) = s.withSchedule (expandKey false s.salt s.saltOperand b) :=
  after_eq (exec_expand0salt_passes (s := s.withSchedule b) rfl)

/-- R132: a rekeying is an EXPAND0KEY and an EXPAND0SALT. -/
theorem after_rekey_withSchedule {s : State} (hk : 1 ≤ s.keylen.toNat ∧ s.keylen.toNat ≤ 72) (b : BlowfishState) :
    Reference.after .expand0salt (Reference.after .expand0key (s.withSchedule b)) =
      s.withSchedule (rekey s.salt s.keyOperand b) := by
  rw [after_expand0key_withSchedule hk, after_expand0salt_withSchedule, rekey_eq]

/-- Settles O44: each command of the sequence does to the schedule what its part of SETUP does, the repetitions included. -/
theorem setupIsTheCommandSequence : Obligations.SetupIsTheCommandSequence := by
  intro s hc4 hc31 hk1 hk72
  have hrekey : Function.Semiconj s.withSchedule (rekey s.salt s.keyOperand)
      fun u => Reference.after .expand0salt (Reference.after .expand0key u) :=
    fun b => (after_rekey_withSchedule ⟨hk1, hk72⟩ b).symm
  rw [exec_setup_passes (checkSetup_passes ⟨hc4, hc31⟩ ⟨hk1, hk72⟩), eksSetup_eq, after_init,
    after_expandkey_withSchedule ⟨hk1, hk72⟩, ← hrekey.iterate_right, State.withSchedule]

end Sys2Proof.Machine
end

section
/-! SUPPORT. The digest block by block, and what CRYPT depends on (42_bcrypt_ecb.md sections 2 and 4). -/

namespace Sys2Proof.Machine

open Sys2Proof

/-- R151: block `k` of the six words of CT. -/
def ctBlock (k : Fin 3) (ct : Vector Word 6) : Word × Word := (ct[2 * k.val], ct[2 * k.val + 1])

/-- R151: a pass enciphers each block into its own position. -/
theorem ctBlock_ecbPass (b : BlowfishState) (k : Fin 3) : Function.Semiconj (ctBlock k) (ecbPass b) (encipher b) := by
  intro ct
  match k with
  | 0 | 1 | 2 => rfl

/-- Settles O46: the blocks never mix in a pass, so neither do they in 64. -/
theorem digestIsBlockMajor : Obligations.DigestIsBlockMajor := by
  intro b k
  have hmagic : ctBlock k magicWords =
      if k.val = 0 then (0x4F727068, 0x65616E42) else if k.val = 1 then (0x65686F6C, 0x64657253) else (0x63727944, 0x6F756274) := by
    revert k
    decide
  rw [← hmagic]
  exact (ctBlock_ecbPass b k).iterate_right 64 magicWords

/-- Settles O49: the checks read COST and KEYLEN, and the schedule comes from COST, SALT and the key bytes. -/
theorem cryptDependsOnItsOperandsAlone : Obligations.CryptDependsOnItsOperandsAlone := by
  intro s s' hcost hkeylen hsalt hkey
  have hcheck : s.checkSetup = s'.checkSetup := by
    rw [State.checkSetup, State.checkSetup, State.checkKeylen, State.checkKeylen, hcost, hkeylen]
  have hoperand : s.keyOperand = s'.keyOperand := by
    rw [State.keyOperand, State.keyOperand, keyBytes_congr hkey, hkeylen]
  cases hc : s.checkSetup with
  | some e => exact ⟨_, _, exec_crypt_fails hc, exec_crypt_fails (hcheck ▸ hc), rfl, fun h0 => absurd h0 e.code_ne_zero⟩
  | none =>
    refine ⟨_, _, exec_crypt_passes hc, exec_crypt_passes (hcheck ▸ hc), ?_, fun _ => ?_⟩
    · rw [State.complete_ecode, State.complete_ecode]
    · simp [hcost, hsalt, hoperand]

end Sys2Proof.Machine
end

section
/-! SUPPORT. ExpandKey as one loop of 521 Steps (41_eksblowfish.md R122, R123): the nested loops over P and S are counted through, and the
words are numbered through, so that Step `k` stores into words `2k` and `2k + 1`. -/

namespace Sys2Proof.Machine

open Sys2Proof

/-! The loops. -/

theorem mul_add_lt_mul {j m i n : Nat} (hj : j < m) (hi : i < n) : j * n + i < m * n :=
  calc j * n + i < j * n + n := Nat.add_lt_add_left hi _
    _ = (j + 1) * n := (Nat.succ_mul j n).symm
    _ ≤ m * n := Nat.mul_le_mul_right n hj

/-- Two nested loops as one. -/
theorem fold_mul {α : Type} (m n : Nat) (f : (i : Nat) → i < m * n → α → α) (a : α) :
    Nat.fold (m * n) f a = Nat.fold m (fun j hj a => Nat.fold n (fun i hi a => f (j * n + i) (mul_add_lt_mul hj hi) a) a) a := by
  induction m with
  | zero => rw [Nat.fold_congr (Nat.zero_mul n), Nat.fold_zero, Nat.fold_zero]
  | succ m ih => rw [Nat.fold_congr (Nat.succ_mul m n), Nat.fold_add, ih, Nat.fold_succ]

/-- R122 steps 3 and 4: the store after Step `k`, first into P and then into the S-boxes in turn. -/
def Work.store (k : Nat) (hk : k < 521) (w : Work) : Work :=
  if h : k < 9 then w.storeP k h else w.storeS ((k - 9) / 128) (by omega) ((k - 9) % 128) (by omega)

theorem Work.store_p {k : Nat} (h : k < 9) (hk : k < 521) (w : Work) : w.store k hk = w.storeP k h := dif_pos h

theorem Work.store_s {j i : Nat} (hj : j < 4) (hi : i < 128) (hk : 9 + (j * 128 + i) < 521) (w : Work) :
    w.store (9 + (j * 128 + i)) hk = w.storeS j hj i hi := by
  have hdiv : (9 + (j * 128 + i) - 9) / 128 = j := by omega
  have hmod : (9 + (j * 128 + i) - 9) % 128 = i := by omega
  simp only [Work.store, hdiv, hmod]
  exact dif_neg (by omega)

theorem Work.replaceP_eq_store (sx : Bool) (salt : Vector Word 4) (w : Work) :
    w.replaceP sx salt = Nat.fold 9 (fun k hk (w : Work) => (w.step sx salt).store k (by omega)) w :=
  congrArg (Nat.fold 9 · w) (funext₃ fun _ hk _ => (Work.store_p hk _ _).symm)

theorem Work.replaceS_eq_store (sx : Bool) (salt : Vector Word 4) (w : Work) :
    w.replaceS sx salt = Nat.fold (4 * 128) (fun k hk (w : Work) => (w.step sx salt).store (9 + k) (by omega)) w := by
  rw [fold_mul]
  exact congrArg (Nat.fold 4 · w) (funext₃ fun _ hj w =>
    congrArg (Nat.fold 128 · w) (funext₃ fun _ hi _ => (Work.store_s hj hi _ _).symm))

/-- R122: what the Steps begin with. -/
def Work.start (key : List Byte) (b : BlowfishState) : Work := { bf := foldKey key b, b := (0, 0), h := false }

theorem expandKey_eq_fold (sx : Bool) (salt : Vector Word 4) (key : List Byte) (b : BlowfishState) :
    expandKey sx salt key b =
      (Nat.fold 521 (fun k hk (w : Work) => (w.step sx salt).store k hk) (Work.start key b)).bf := by
  rw [Nat.fold_congr (show 521 = 9 + 4 * 128 from rfl), Nat.fold_add, ← Work.replaceP_eq_store, ← Work.replaceS_eq_store]
  rfl

/-! The words (R123). -/

theorem wordAt_p (b : BlowfishState) {n : Nat} (h : n < 18) : Reference.wordAt b n = b.p[n] := dif_pos h

theorem wordAt_s (b : BlowfishState) {n : Nat} (h18 : 18 ≤ n) (h : n < 1042) :
    Reference.wordAt b n = (b.s[(n - 18) / 256]'(by omega))[(n - 18) % 256]'(by omega) := by
  rw [Reference.wordAt, dif_neg (by omega), dif_pos h]

theorem wordAt_storeP {k : Nat} (hk : k < 9) (w : Work) {n : Nat} (hn : n < 1042) :
    Reference.wordAt (w.storeP k hk).bf n = if n = 2 * k then w.b.1 else if n = 2 * k + 1 then w.b.2 else Reference.wordAt w.bf n := by
  by_cases h : n < 18
  · rw [wordAt_p _ h, wordAt_p _ h, Work.storeP_p]
  · simp only [wordAt_s _ (Nat.le_of_not_lt h) hn, Work.storeP_s]
    rw [if_neg (by omega), if_neg (by omega)]

theorem wordAt_storeS {j i : Nat} (hj : j < 4) (hi : i < 128) (w : Work) {n : Nat} (hn : n < 1042) :
    Reference.wordAt (w.storeS j hj i hi).bf n =
      if n = 18 + 256 * j + 2 * i then w.b.1 else if n = 18 + 256 * j + 2 * i + 1 then w.b.2 else Reference.wordAt w.bf n := by
  by_cases h : n < 18
  · simp only [wordAt_p _ h, Work.storeS_p]
    rw [if_neg (by omega), if_neg (by omega)]
  · rw [wordAt_s _ (Nat.le_of_not_lt h) hn, wordAt_s _ (Nat.le_of_not_lt h) hn, Work.storeS_s]
    have hfst : (n - 18) / 256 = j ∧ (n - 18) % 256 = 2 * i ↔ n = 18 + 256 * j + 2 * i := by omega
    have hsnd : (n - 18) / 256 = j ∧ (n - 18) % 256 = 2 * i + 1 ↔ n = 18 + 256 * j + 2 * i + 1 := by omega
    simp only [hfst, hsnd]

/-- R123: Step `k` overwrites words `2k` and `2k + 1`. -/
theorem wordAt_store {k : Nat} (hk : k < 521) (w : Work) {n : Nat} (hn : n < 1042) :
    Reference.wordAt (w.store k hk).bf n = if n = 2 * k then w.b.1 else if n = 2 * k + 1 then w.b.2 else Reference.wordAt w.bf n := by
  by_cases h : k < 9
  · rw [Work.store_p h, wordAt_storeP h w hn]
  · rw [Work.store, dif_neg h, wordAt_storeS _ _ w hn]
    have hpos : 18 + 256 * ((k - 9) / 128) + 2 * ((k - 9) % 128) = 2 * k := by omega
    rw [hpos]

theorem wordAt_foldKey_p (key : List Byte) (b : BlowfishState) {n : Nat} (h : n < 18) :
    Reference.wordAt (foldKey key b) n = Reference.wordAt b n ^^^ keyWord key n := by
  rw [wordAt_p _ h, wordAt_p _ h, foldKey_p]

theorem wordAt_foldKey_s (key : List Byte) (b : BlowfishState) {n : Nat} (h18 : 18 ≤ n) (h : n < 1042) :
    Reference.wordAt (foldKey key b) n = Reference.wordAt b n := by
  simp only [wordAt_s _ h18 h, foldKey_s]

/-! The Steps. -/

@[simp] theorem Work.store_b {k : Nat} (hk : k < 521) (w : Work) : (w.store k hk).b = w.b := by
  unfold Work.store
  split <;> rfl

@[simp] theorem Work.store_h {k : Nat} (hk : k < 521) (w : Work) : (w.store k hk).h = w.h := by
  unfold Work.store
  split <;> rfl

/-- R124: a Step whose toggle tells the parity of `k` takes salt half `k mod 2`. -/
theorem Work.step_b_of_toggle (sx : Bool) (salt : Vector Word 4) {w : Work} {k : Nat} (h : w.h = decide (k % 2 = 1)) :
    (w.step sx salt).b = encipher w.bf
      (if sx then
        (if k % 2 = 0 then (w.b.1 ^^^ salt[0], w.b.2 ^^^ salt[1]) else (w.b.1 ^^^ salt[2], w.b.2 ^^^ salt[3]))
       else w.b) := by
  rw [Work.step_b, h]
  rcases Nat.mod_two_eq_zero_or_one k with hk | hk <;> simp [hk, saltHalf]

/-- R124: H starts at 0 and flips at each Step, so after `k` of them it tells the parity of `k`. -/
theorem toggle_eq_parity {n : Nat} {w : Nat → Work} (hstart : (w 0).h = false) (hflip : ∀ k < n, (w (k + 1)).h = !(w k).h) :
    ∀ k ≤ n, (w k).h = decide (k % 2 = 1)
  | 0, _ => hstart
  | k + 1, hk => by
    rw [hflip k hk, toggle_eq_parity hstart hflip k (Nat.le_of_lt hk)]
    rcases Nat.mod_two_eq_zero_or_one k with h | h <;> simp [h, Nat.add_mod]

/-- Settles O38: the working states of the one loop give the schedules and the blocks. -/
theorem expandKeyIs521Steps : Obligations.ExpandKeyIs521Steps := by
  intro sx salt key b
  obtain ⟨w, hstart, hstep, hend⟩ := exists_fold_trace 521 (fun k hk (w : Work) => (w.step sx salt).store k hk) (Work.start key b)
  have hblock (k : Nat) (hk : k < 521) : (w (k + 1)).b = ((w k).step sx salt).b := by rw [hstep k hk, Work.store_b]
  have htoggle := toggle_eq_parity (n := 521) (w := w) (by rw [hstart, Work.start])
    (fun k hk => by rw [hstep k hk, Work.store_h, Work.step_h])
  refine ⟨fun k => (w k).bf, fun k => (w k).b, ?_⟩
  beta_reduce
  rw [hstart, expandKey_eq_fold, ← hend]
  refine ⟨fun n hn => wordAt_foldKey_p key b hn, fun n h18 hn => wordAt_foldKey_s key b h18 hn, rfl, fun k hk => ⟨?_, fun n hn => ?_⟩,
    rfl⟩
  · rw [hblock k hk, Work.step_b_of_toggle sx salt (htoggle k (Nat.le_of_lt hk))]
  · rw [hblock k hk, hstep k hk, wordAt_store hk _ hn, Work.step_bf]

end Sys2Proof.Machine
end
